-- ==== Sys2Proof/Word.lean ====
section
/-! DEFINITION. The widths of the block's values (spec/00_scope.md R6, R8; spec/30_encoding.md R80, R81).
Bit 0 is the least significant bit of every word and every value is unsigned (R8). -/

namespace Sys2Proof

/-- A 32-bit word: a configuration word, an address word, a port transaction's value (R52). -/
abbrev Word := BitVec 32

/-- A 64-bit command word (R81); also the width of a response's value (R82). -/
abbrev Word64 := BitVec 64

/-- An 8-bit field: a header type, a class-code field, a register offset, an index. -/
abbrev Byte := BitVec 8

/-- A bus number, `BUS_BITS` = 8 (R6). -/
abbrev BusNo := BitVec 8

/-- A device number, `DEV_BITS` = 5 (R6). -/
abbrev DevNo := BitVec 5

/-- A function number, `FN_BITS` = 3 (R6). -/
abbrev FnNo := BitVec 3

end Sys2Proof
end

