-- ==== Sys2Proof/Config.lean ====
section
/-! DEFINITION. The parameters of spec/00_scope.md R6 and R7, and the free values of the block. -/

namespace Sys2Proof.Config

/-! Parameters fixed by the source (R6). -/

/-- `REG_CAPACITY`: entries of the Device Registry. -/
abbrev regCapacity : Nat := 32
/-- `NUM_BARS`: base address registers of a function. -/
abbrev numBars : Nat := 6
/-- `BAR_BASE_OFFSET`: register offset of BAR 0. -/
abbrev barBaseOffset : Byte := 0x10
/-- `BAR_STRIDE`: bytes from one BAR to the next. -/
abbrev barStride : Byte := 4
/-- `ABSENT_VENDOR`: the vendor id read where no function is present. -/
abbrev absentVendor : BitVec 16 := 0xFFFF
/-- `OFF_VENDOR_DEVICE`. -/
abbrev offVendorDevice : Byte := 0x00
/-- `OFF_CLASS`. -/
abbrev offClass : Byte := 0x08
/-- `OFF_HEADER`. -/
abbrev offHeader : Byte := 0x0C
/-- `OFF_BUS_NUMBERS`. -/
abbrev offBusNumbers : Byte := 0x18
/-- `BRIDGE_BASE`: base class of a PCI-to-PCI bridge. -/
abbrev bridgeBase : Byte := 0x06
/-- `BRIDGE_SUB`: sub class of a PCI-to-PCI bridge. -/
abbrev bridgeSub : Byte := 0x04
/-- `NUM_DEVICES`: devices of a bus. -/
abbrev numDevices : Nat := 32
/-- `NUM_FUNCTIONS`: functions of a device. -/
abbrev numFunctions : Nat := 8
/-- `CFG_ENABLE_BIT`: the enable bit of the address word. -/
abbrev cfgEnableBit : Nat := 31
/-- `BAR_64_BIT`: the bit of a BAR that marks the lower half of a 64-bit pair. -/
abbrev bar64Bit : Nat := 2
/-- `MULTI_FN_BIT`: the bit of a header type that marks a multi-function device. -/
abbrev multiFnBit : Nat := 7

/-! Parameters the source leaves open (R7). -/

/-- `ADDR_PORT`, PRESUMED (spec G1, D11; log 14): nothing but the port's label depends on it. -/
abbrev addrPort : BitVec 16 := 0x0CF8
/-- `DATA_PORT`, PRESUMED (spec G1, D11; log 14); 4 above `ADDR_PORT` is the source's. -/
abbrev dataPort : BitVec 16 := 0x0CFC
/-- `STACK_DEPTH`: SCANBUS activations the engine has room for (R7, R168, D20). -/
abbrev stackDepth : Nat := 33

/-! Field positions inside a configuration word, lowest bit of each (spec/10_state.md R30,
spec/30_encoding.md R89). All but `secondaryBusLo` PRESUMED (spec G2, G3, D14; log 13). -/

/-- `vendor_id` is bits 15:0 of the word at 0x00. -/
abbrev vendorIdLo : Nat := 0
/-- `device_id` is bits 31:16 of the word at 0x00. -/
abbrev deviceIdLo : Nat := 16
/-- `header_type` is bits 23:16 of the word at 0x0C. -/
abbrev headerTypeLo : Nat := 16
/-- `base` is bits 31:24 of the word at 0x08. -/
abbrev classBaseLo : Nat := 24
/-- `sub` is bits 23:16 of the word at 0x08. -/
abbrev classSubLo : Nat := 16
/-- `interface` is bits 15:8 of the word at 0x08. -/
abbrev classInterfaceLo : Nat := 8
/-- `secondary_bus` is bits 15:8 of the word at 0x18 (the source's own "bits 15–8"). -/
abbrev secondaryBusLo : Nat := 8

/-! Free values: constants without a body, so that nothing can be proved of them. -/

/-- FREE VALUE (log 4). `FAIL_PAYLOAD` (R7, R82, D7): the value field of a response whose kind is not
Success, drawn afresh for each failing response: `failPayload n` is the draw of index `n`. -/
opaque failPayload (n : Nat) : Word64

/-- FREE VALUE (log 5). `CfgRead` (R10, R54, U8): what the platform answers to a data-port read while the
address latch holds `latch`, where no `StaticCfg` table (R58) fixes it. Drawn afresh for each read: two
reads of one word need not agree (R57). -/
opaque cfgAnswer (n : Nat) (latch : Word) : Word

end Sys2Proof.Config
end

