-- ==== Sys2Proof/Syntax.lean ====
section
/-! DEFINITION. The block's records (spec/10_state.md R21, R22) and its 24 operations (spec/30_encoding.md
R85), one constructor for each row of spec/opcode_table.json. Operands have exactly the widths of their
fields (R81, spec/40_address_codec.md R110 corner case d), so no operand can be out of range. -/

namespace Sys2Proof

/-- `ClassCode` (R21): "three 8-bit fields: `base`, `sub`, `interface`". -/
structure ClassCode where
  base : Byte
  sub : Byte
  interface : Byte
  deriving DecidableEq, Repr

/-- `Device` (R22): "identifies one PCI function"; 48 bits. -/
structure Device where
  bus : BusNo
  device : DevNo
  function : FnNo
  headerType : Byte
  classCode : ClassCode
  deriving DecidableEq, Repr

/-- The operations of the block (R85). The first fifteen are host commands; the last nine are internal,
invoked by the block's own rules only, with arguments passed internally (R92). The source's names are those
of R96. -/
inductive Instr where
  /-- ENCODE, 0x01, R110: the source's `EncodeAddress`. -/
  | encodeAddr (bus : BusNo) (dev : DevNo) (fn : FnNo) (offset : Byte)
  /-- WRADDR, 0x02, R120: `WriteAddress`. -/
  | wraddr (addr : Word)
  /-- RDDATA, 0x03, R121: `ReadData`. -/
  | rddata
  /-- WRDATA, 0x04, R122: `WriteData`. -/
  | wrdata (value : Word)
  /-- CFGRD, 0x05, R123: `ReadConfReg`. -/
  | cfgrd (bus : BusNo) (dev : DevNo) (fn : FnNo) (offset : Byte)
  /-- CFGWR, 0x06, R124: `WriteConfReg`. -/
  | cfgwr (bus : BusNo) (dev : DevNo) (fn : FnNo) (offset : Byte) (value : Word)
  /-- RDVENDOR, 0x07, R125: `ReadVendorId`. -/
  | rdvendor (bus : BusNo) (dev : DevNo) (fn : FnNo)
  /-- RDDEVID, 0x08, R126: `ReadDeviceId`. -/
  | rddevid (bus : BusNo) (dev : DevNo) (fn : FnNo)
  /-- RDHDR, 0x09, R127: `ReadHeaderType`. -/
  | rdhdr (bus : BusNo) (dev : DevNo) (fn : FnNo)
  /-- RDCLASS, 0x0A, R128: `ReadClassCode`. -/
  | rdclass (bus : BusNo) (dev : DevNo) (fn : FnNo)
  /-- RDBUSNUM, 0x0B, R129: `ReadBusNumbers`. -/
  | rdbusnum (bus : BusNo) (dev : DevNo) (fn : FnNo)
  /-- RDBAR, 0x0C, R180: `ReadBar`. -/
  | rdbar (bus : BusNo) (dev : DevNo) (fn : FnNo) (index : Byte)
  /-- SCANALL, 0x0D, R160: `ScanAll`. -/
  | scanall
  /-- REGCNT, 0x0E, R142: the registry's occupancy count. -/
  | regcnt
  /-- REGRD, 0x0F, R143: one registry entry. -/
  | regrd (index : Byte)
  /-- REGRESET, internal 0x80, R140: `Reset`. -/
  | regreset
  /-- REGADD, internal 0x81, R141: `Registry.Add`. -/
  | regadd (device : Device)
  /-- SCANBUS, internal 0x82, R161: `ScanBus`. -/
  | scanbus (bus : BusNo)
  /-- SCANDEV, internal 0x83, R162: `ScanDevice`. -/
  | scandev (bus : BusNo) (dev : DevNo)
  /-- SCANFN, internal 0x84, R163: `ScanFunction`. -/
  | scanfn (bus : BusNo) (dev : DevNo) (fn : FnNo)
  /-- CCMATCH1, internal 0x85, R144: match by base. -/
  | ccmatch1 (c : ClassCode) (base : Byte)
  /-- CCMATCH2, internal 0x86, R145: match by base and sub. -/
  | ccmatch2 (c : ClassCode) (base sub : Byte)
  /-- CCMATCH3, internal 0x87, R146: match by all three. -/
  | ccmatch3 (c : ClassCode) (base sub interface : Byte)
  /-- ISSINGLE, internal 0x88, R147: the single-function test of a header type. -/
  | issingle (header : Byte)
  deriving DecidableEq, Repr

end Sys2Proof
end

