-- ==== Sys2Proof/WellFormed.lean ====
section
/-! DEFINITION. Which operations a command word can carry. A host command's operands are fields of the word
and every value of a field is an operand (spec/30_encoding.md R81, R86, R87), so nothing is checked of them.
An internal operation's code is an identifier only: its arguments are passed internally (R85, R92, and
`internal_arguments` of spec/opcode_table.json) and no field of the word holds them, so a word can name the
operation with no argument given, which the model writes as arguments of zero (log 3). -/

namespace Sys2Proof

/-- The `ClassCode` whose fields are all 0. -/
abbrev ClassCode.zero : ClassCode := ⟨0, 0, 0⟩

/-- The `Device` whose fields are all 0. -/
abbrev Device.zero : Device := ⟨0, 0, 0, 0, .zero⟩

/-- R85, column "kind": the operations accepted from the host. -/
def Instr.isHost : Instr → Bool
  | .encodeAddr _ _ _ _ => true
  | .wraddr _ => true
  | .rddata => true
  | .wrdata _ => true
  | .cfgrd _ _ _ _ => true
  | .cfgwr _ _ _ _ _ => true
  | .rdvendor _ _ _ => true
  | .rddevid _ _ _ => true
  | .rdhdr _ _ _ => true
  | .rdclass _ _ _ => true
  | .rdbusnum _ _ _ => true
  | .rdbar _ _ _ _ => true
  | .scanall => true
  | .regcnt => true
  | .regrd _ => true
  | .regreset => false
  | .regadd _ => false
  | .scanbus _ => false
  | .scandev _ _ => false
  | .scanfn _ _ _ => false
  | .ccmatch1 _ _ => false
  | .ccmatch2 _ _ _ => false
  | .ccmatch3 _ _ _ _ => false
  | .issingle _ => false

/-- No argument given: every argument of an internal operation is 0. -/
def Instr.noArguments : Instr → Bool
  | .regreset => true
  | .regadd d => decide (d = .zero)
  | .scanbus bus => bus == 0
  | .scandev bus dev => bus == 0 && dev == 0
  | .scanfn bus dev fn => bus == 0 && dev == 0 && fn == 0
  | .ccmatch1 c b => decide (c = .zero) && b == 0
  | .ccmatch2 c b s => decide (c = .zero) && b == 0 && s == 0
  | .ccmatch3 c b s i => decide (c = .zero) && b == 0 && s == 0 && i == 0
  | .issingle h => h == 0
  | .encodeAddr _ _ _ _ => false
  | .wraddr _ => false
  | .rddata => true
  | .wrdata _ => false
  | .cfgrd _ _ _ _ => false
  | .cfgwr _ _ _ _ _ => false
  | .rdvendor _ _ _ => false
  | .rddevid _ _ _ => false
  | .rdhdr _ _ _ => false
  | .rdclass _ _ _ => false
  | .rdbusnum _ _ _ => false
  | .rdbar _ _ _ _ => false
  | .scanall => true
  | .regcnt => true
  | .regrd _ => false

/-- An operation that a command word can carry: a host command, or an internal operation's bare name. -/
def Instr.wellFormed (i : Instr) : Bool := i.isHost || i.noArguments

end Sys2Proof
end

