-- ==== Sys2Proof/Machine/State.lean ====
section
/-! DEFINITION. The state of the block (spec/10_state.md R20 to R37), as plain data, and its reset values
(R36, spec/70_reset_and_hazards.md R220). -/

namespace Sys2Proof.Machine

/-- The failing result kinds (spec/60_exceptions.md R190 to R193). -/
inductive Failure where
  /-- A 33rd function was found (R191). -/
  | full
  /-- A BAR index or registry index out of range (R192). -/
  | indexOutOfRange
  /-- A command word that names no host operation (R193). -/
  | badCommand
  deriving DecidableEq, Repr

/-- The result kinds of a response (R29, R190). -/
inductive Kind where
  | success
  | full
  | indexOutOfRange
  | badCommand
  deriving DecidableEq, Repr

/-- A response to the host (spec/30_encoding.md R82): a result kind and a 64-bit value. -/
structure Response where
  kind : Kind
  value : Word64
  deriving DecidableEq, Repr

/-- A port transaction of the block (spec/00_scope.md R11). -/
inductive Event where
  /-- `WA(v)`: `IoWrite32(ADDR_PORT, v)`. -/
  | wa (v : Word)
  /-- `RD(v)`: an `IoRead32(DATA_PORT)` that returned `v`. -/
  | rd (v : Word)
  /-- `WD(v)`: `IoWrite32(DATA_PORT, v)`. -/
  | wd (v : Word)
  deriving DecidableEq, Repr

/-- A move of an external port agent (R12, spec/70_reset_and_hazards.md R227): it "may write any value to
`CFG_ADDR` and access the data port". -/
inductive ExternalMove where
  | writeAddr (v : Word)
  | readData
  | writeData (v : Word)
  deriving DecidableEq, Repr

/-- The engine's run state (R32): accepting a command makes it Busy, handing over the response Idle. -/
inductive RunState where
  | idle
  | busy
  deriving DecidableEq, Repr

/-- What an operation returns (R10): `(Success, v)`, a `ClassCode` (R128), a boolean (R144 to R147), or a
failing kind, whose value is left open (R82). -/
inductive Returned where
  | value (v : Word64)
  | classCode (c : ClassCode)
  | truth (b : Bool)
  | failed (f : Failure)
  deriving DecidableEq, Repr

/-- The place SCANALL has reached (the lines of spec/43_scanner.md R160). -/
inductive AllPlace where
  | start      -- before REGRESET
  | reset      -- waits for REGRESET
  | header     -- waits for RDHDR of 0:0.0
  | single     -- waits for ISSINGLE
  | root       -- waits for SCANBUS of bus 0
  | vendor     -- waits for RDVENDOR of 0:0.function
  | segment    -- waits for SCANBUS of bus function
  deriving DecidableEq, Repr

/-- The place SCANBUS has reached (R161). -/
inductive BusPlace where
  | start      -- before the first device
  | vendor     -- waits for RDVENDOR of bus:device.0
  | device     -- waits for SCANDEV of bus:device
  deriving DecidableEq, Repr

/-- The place SCANDEV has reached (R162). -/
inductive DevPlace where
  | start      -- before SCANFN of function 0
  | first      -- waits for SCANFN of function 0
  | header     -- waits for RDHDR of function 0
  | single     -- waits for ISSINGLE
  | vendor     -- waits for RDVENDOR of bus:device.function
  | function   -- waits for SCANFN of bus:device.function
  deriving DecidableEq, Repr

/-- The place SCANFN has reached (R163). -/
inductive FnPlace where
  | start      -- before RDCLASS
  | classCode  -- waits for RDCLASS
  | header     -- waits for RDHDR
  | add        -- waits for REGADD
  | bridge     -- waits for CCMATCH2
  | busNumbers -- waits for RDBUSNUM
  | below      -- waits for SCANBUS of the secondary bus
  deriving DecidableEq, Repr

/-- An activation of the traversal cursor (R31), with what R31 says it holds and its place. Loop indices are
numbers that do not wrap (R234): the device index may reach 32 and the function index 8. -/
inductive Activation where
  | scanAll (place : AllPlace) (function : Nat)
  | scanBus (place : BusPlace) (bus : BusNo) (device : Nat)
  | scanDev (place : DevPlace) (bus : BusNo) (dev : DevNo) (function : Nat)
  | scanFn (place : FnPlace) (bus : BusNo) (dev : DevNo) (fn : FnNo) (header : Byte) (classCode : ClassCode)
  deriving DecidableEq, Repr

/-- Configuration words the platform holds fixed (the table of spec/20_memory.md R58): cells of a word's
index (R34: 22 bits, bus, device, function, word) and the word, in one canonical form (`Memory.wf`). A word
that is not listed answers each read with a free value (log 6). -/
abbrev ConfigSpace := List (Nat × Word)

/-- The state of the block and, below the line, the parameters of a step that R37 names, which the model
keeps in the state as inputs and outputs. -/
structure State where
  /-- `REG_COUNT` (R23), 6 bits. -/
  regCount : BitVec 6
  /-- `REG_ENTRY[0..31]` (R23, R24). -/
  regEntry : Vector Device 32
  /-- `CFG_ADDR` (R26), the platform's address-port latch. -/
  cfgAddr : Word
  /-- The engine's run state (R32). -/
  run : RunState
  /-- The traversal cursor (R31), innermost activation FIRST (log 18); empty when the engine is Idle, and
  while it performs a host command other than SCANALL. -/
  cursor : List Activation
  /-- Configuration space contents (R20, R34), as far as they are known to be fixed (R58; log 6). -/
  cfg : ConfigSpace
  /-- The MODEL's own: what the operation issued last returned to the calling rule (R10; log 10). -/
  ret : Option Returned
  /-- The MODEL's own: the command words the host issues next, first one first (R37; log 1). -/
  commands : List Word64
  /-- The MODEL's own: the moves of external port agents, one list for the time just before each coming port
  event; empty where `EXTERNAL_PORT_AGENTS` is false (R227; log 12). -/
  external : List (List ExternalMove)
  /-- The trace (R11), oldest event first. -/
  trace : List Event
  /-- The responses delivered so far (R82, R236), oldest first. -/
  responses : List Response
  /-- The MODEL's own: how many free values have been drawn (log 9). -/
  draws : Nat
  deriving DecidableEq, Repr

/-- Why the machine can stop. The spec gives the block no fault that stops it (R195); these are raised by
`step` only in states of the model that no run reaches (log 17), and are safe: nothing can be claimed of a
step that is not taken. -/
inductive Fault where
  /-- Raised by `step`: the engine is Busy and the cursor is empty. Safe. -/
  | lostCursor
  /-- Raised by `step`: the innermost activation waits for a return that the return latch does not hold. Safe. -/
  | lostReturn
  deriving DecidableEq, Repr

/-- Why the model can refuse an operation. No operation is refused. -/
inductive Refusal where
  /-- Raised by `exec` for an operation without a meaning; no arm of `exec` raises it. Safe. -/
  | notModelled (mnemonic : String)
  deriving DecidableEq, Repr

/-- Power-on (R36, R220): `REG_COUNT` 0, engine Idle, no cursor. `CFG_ADDR` and `REG_ENTRY` are unspecified
there; the zeros here are DESIGN CHOICEs (log 7, log 8), and so is the index of the first draw (log 9). No
configuration word is known, no command is pending, no port transaction has been made. -/
def State.reset : State where
  regCount := 0
  regEntry := Vector.replicate 32 Device.zero
  cfgAddr := 0
  run := .idle
  cursor := []
  cfg := []
  ret := none
  commands := []
  external := []
  trace := []
  responses := []
  draws := 0

end Sys2Proof.Machine
end

