-- ==== Sys2Proof/Machine/Operands.lean ====
section
/-! DEFINITION. Operand assembly, field extraction, formats and tests: the pure functions of the block
(spec/30_encoding.md R80 to R90, spec/40_address_codec.md R110, spec/42_registry.md R144 to R147). -/

namespace Sys2Proof.Machine

/-- The configuration address word (R80, R110): enable bit, seven zeros, bus, device, function, the top 6
bits of the register offset, two zeros. -/
def encodeAddress (bus : BusNo) (dev : DevNo) (fn : FnNo) (offset : Byte) : Word :=
  1#1 ++ 0#7 ++ bus ++ dev ++ fn ++ offset.extractLsb' 2 6 ++ 0#2

/-- The shape of an address word the codec produces (spec/20_memory.md R67): `a[31] = 1`, `a[30:24] = 0`,
`a[1:0] = 0`. -/
def selects (a : Word) : Bool :=
  a.getLsbD Config.cfgEnableBit && a.extractLsb' 24 7 == 0 && a.extractLsb' 0 2 == 0

/-- The index of the configuration word that an address word of that shape selects (R34, R67): bus, device,
function and word index, bits 23:2. -/
def wordIndex (a : Word) : Nat := (a.extractLsb' 2 22).toNat

/-- `vendor_id` of the word at 0x00 (R89). -/
def vendorId (w : Word) : BitVec 16 := w.extractLsb' Config.vendorIdLo 16

/-- `device_id` of the word at 0x00 (R89). -/
def deviceId (w : Word) : BitVec 16 := w.extractLsb' Config.deviceIdLo 16

/-- `header_type` of the word at 0x0C (R89). -/
def headerType (w : Word) : Byte := w.extractLsb' Config.headerTypeLo 8

/-- The `ClassCode` of the word at 0x08 (R89, R128). -/
def classCodeOf (w : Word) : ClassCode where
  base := w.extractLsb' Config.classBaseLo 8
  sub := w.extractLsb' Config.classSubLo 8
  interface := w.extractLsb' Config.classInterfaceLo 8

/-- `secondary_bus` of the word at 0x18 (R89, spec/43_scanner.md R163). -/
def secondaryBus (w : Word) : BusNo := w.extractLsb' Config.secondaryBusLo 8

/-- The class code read-out (R84): base, sub, interface, and 0 in bits 7:0. -/
def packClass (c : ClassCode) : Word := c.base ++ c.sub ++ c.interface ++ 0#8

/-- The registry entry read-out (R83). -/
def packDevice (d : Device) : Word64 :=
  0#8 ++ d.bus ++ d.device ++ d.function ++ d.headerType ++ packClass d.classCode

/-- The register offset of BAR `i` (R87): `0x10 + 4·i`. -/
def barOffset (i : Byte) : Byte := Config.barBaseOffset + Config.barStride * i

/-- The 64-bit BAR value (R88): `lower32 | (upper32 << 32)`. -/
def assemble64 (lo hi : Word) : Word64 := lo.setWidth 64 ||| (hi.setWidth 64 <<< 32)

/-- Bit 2 of a BAR (R6, R180): the mark of the lower half of a 64-bit pair. -/
def isLowerHalf (bar : Word) : Bool := bar.getLsbD Config.bar64Bit

/-- The function index used as a bus number (R90): `zext_8(f)`. -/
def functionAsBus (function : Nat) : BusNo := (BitVec.ofNat 3 function).setWidth 8

/-- CCMATCH1's test (R144). -/
def matchBase (c : ClassCode) (b : Byte) : Bool := c.base == b

/-- CCMATCH2's test (R145): `interface` is ignored. -/
def matchBaseSub (c : ClassCode) (b s : Byte) : Bool := c.base == b && c.sub == s

/-- CCMATCH3's test (R146). -/
def matchAll (c : ClassCode) (b s i : Byte) : Bool := c.base == b && c.sub == s && c.interface == i

/-- ISSINGLE's test (R147): bit 7 of the header type is 0; bits 6:0 are ignored. -/
def isSingle (header : Byte) : Bool := !header.getLsbD Config.multiFnBit

/-- The result kind a failure is reported under. -/
def Failure.kind : Failure → Kind
  | .full => .full
  | .indexOutOfRange => .indexOutOfRange
  | .badCommand => .badCommand

/-- The 8-bit codes of the result kinds (spec/60_exceptions.md R190). -/
def Kind.code : Kind → Byte
  | .success => 0
  | .full => 1
  | .indexOutOfRange => 2
  | .badCommand => 3

/-- The two ports of the pair, with their numbers in I/O port space (spec/00_scope.md R7, spec/20_memory.md
R60; log 14). -/
def portNumber (isData : Bool) : BitVec 16 := if isData then Config.dataPort else Config.addrPort

end Sys2Proof.Machine
end

