-- ==== Sys2Proof/Machine/Memory.lean ====
section
/-! DEFINITION. The configuration words known to be fixed (spec/20_memory.md R54, R58): one canonical form,
the read of one word, and what a write does to it. -/

namespace Sys2Proof.Machine

/-- The number of configuration words (spec/10_state.md R34): 2^22. -/
abbrev Memory.size : Nat := 2 ^ 22

/-- Whether every index of the list is above `n`, the list's first one bounding the next and so on: indices
strictly rising. -/
def Memory.risingFrom (n : Nat) : ConfigSpace → Bool
  | [] => true
  | (k, _) :: rest => decide (n ≤ k) && decide (k < Memory.size) && Memory.risingFrom (k + 1) rest

/-- The canonical form: word indices strictly rising and inside configuration space. An unlisted word has no
value (it answers with a free value), so no entry can equal it. -/
def Memory.wf (m : ConfigSpace) : Bool := Memory.risingFrom 0 m

/-- The word listed at an index; none where the index is not listed. -/
def Memory.read (m : ConfigSpace) (k : Nat) : Option Word :=
  match m with
  | [] => none
  | (k', w) :: rest => if k = k' then some w else Memory.read rest k

/-- After a write to a word nothing is known of it (spec/20_memory.md R64, spec/93 U10; log 6): its cell goes. -/
def Memory.forget (m : ConfigSpace) (k : Nat) : ConfigSpace :=
  match m with
  | [] => []
  | (k', w) :: rest => if k = k' then Memory.forget rest k else (k', w) :: Memory.forget rest k

/-- The fixed word that an address word selects (R54, R67); none where it is not listed, and none for an
address word the codec cannot produce (R66; log 19). -/
def State.fixedWord (s : State) (a : Word) : Option Word :=
  if selects a then Memory.read s.cfg (wordIndex a) else none

/-- What a data-port read answers while the latch holds `a` (R54), given the index of the next draw. -/
def State.answerAt (s : State) (n : Nat) (a : Word) : Word :=
  match s.fixedWord a with
  | some w => w
  | none => Config.cfgAnswer n a

/-- How many free values that read draws. -/
def State.answerDraws (s : State) (a : Word) : Nat :=
  match s.fixedWord a with
  | some _ => 0
  | none => 1

/-- What `cfg` becomes when a word is written through the data port while the latch holds `a` (R55, R66). -/
def State.cfgAfterWrite (s : State) (a : Word) : ConfigSpace :=
  if selects a then Memory.forget s.cfg (wordIndex a) else s.cfg

end Sys2Proof.Machine
end

