-- ==== Sys2Proof/Machine/Ops.lean ====
section
/-! DEFINITION. The shared operations: port transactions (spec/20_memory.md R53 to R59), round trips
(spec/41_config_port.md R123 to R130), the registry (spec/42_registry.md R140, R141), and the return of an
operation, which is the block's analogue of taking an exception and of returning from one
(spec/00_scope.md R9, R10, spec/60_exceptions.md R198 to R200). -/

namespace Sys2Proof.Machine

/-! ## Port transactions -/

/-- One move of an external port agent (spec/70_reset_and_hazards.md R227). -/
def State.externalMove (s : State) : ExternalMove → State
  | .writeAddr v => { s with cfgAddr := v }
  | .readData => s
  | .writeData _ => { s with cfg := s.cfgAfterWrite s.cfgAddr }

/-- The moves external port agents make before the block's next port event: none under the premise of R227. -/
def State.externalTurn (s : State) : State :=
  match s.external with
  | [] => s
  | moves :: rest => moves.foldl State.externalMove { s with external := rest }

/-- `IoWrite32(ADDR_PORT, v)` (R53): the latch takes all 32 bits as written. The event is `WA(v)`. -/
def State.ioWriteAddr (s : State) (v : Word) : State :=
  let s := s.externalTurn
  { s with cfgAddr := v, trace := s.trace ++ [.wa v] }

/-- `IoRead32(DATA_PORT)` (R54): `CfgRead` of whatever the latch holds now. The event is `RD(v)`. -/
def State.ioReadData (s : State) : Word × State :=
  let s := s.externalTurn
  let v := s.answerAt s.draws s.cfgAddr
  (v, { s with trace := s.trace ++ [.rd v], draws := s.draws + s.answerDraws s.cfgAddr })

/-- `IoWrite32(DATA_PORT, v)` (R55): the word the latch selects now is presented with `v`. The event is `WD(v)`. -/
def State.ioWriteData (s : State) (v : Word) : State :=
  let s := s.externalTurn
  { s with cfg := s.cfgAfterWrite s.cfgAddr, trace := s.trace ++ [.wd v] }

/-! ## Round trips -/

/-- CFGRD's round trip (R123): the address word, then one data-port read. -/
def State.readConfig (s : State) (bus : BusNo) (dev : DevNo) (fn : FnNo) (offset : Byte) : Word × State :=
  (s.ioWriteAddr (encodeAddress bus dev fn offset)).ioReadData

/-- CFGWR's round trip (R124): the address word, then one data-port write. -/
def State.writeConfig (s : State) (bus : BusNo) (dev : DevNo) (fn : FnNo) (offset : Byte) (v : Word) : State :=
  (s.ioWriteAddr (encodeAddress bus dev fn offset)).ioWriteData v

/-- The BAR resolver's algorithm (spec/44_bar_resolver.md R180), step by step. -/
def State.readBar (s : State) (bus : BusNo) (dev : DevNo) (fn : FnNo) (index : Byte) : Returned × State :=
  if Config.numBars ≤ index.toNat then (.failed .indexOutOfRange, s)
  else
    let lo := s.readConfig bus dev fn (barOffset index)
    if isLowerHalf lo.1 = false then (.value (lo.1.setWidth 64), lo.2)
    else if Config.numBars ≤ index.toNat + 1 then (.failed .indexOutOfRange, lo.2)
    else
      let hi := lo.2.readConfig bus dev fn (barOffset (index + 1))
      (.value (assemble64 lo.1 hi.1), hi.2)

/-! ## Registry -/

/-- REGRESET (R140): "entries need not be cleared, only the count". -/
def State.regReset (s : State) : Returned × State := (.value 0, { s with regCount := 0 })

/-- REGADD (R141): append at the count, or `Full` with the registry unchanged. A count above 32 is in no
reachable state (R23; log 15). -/
def State.regAdd (s : State) (d : Device) : Returned × State :=
  if s.regCount = Config.regCapacity then (.failed .full, s)
  else (.value 0, { s with
    regEntry := s.regEntry.setIfInBounds s.regCount.toNat d
    regCount := s.regCount + 1 })

/-- Entry `i` of the registry (R23): there are 32; an index above 31 names none, and the zero `Device` stands
there (reached only with a count above 32, which no run has; log 15). -/
def State.entry (s : State) (i : Nat) : Device := s.regEntry[i]?.getD Device.zero

/-- The valid entries `[0, count)` (R24), in order. -/
def State.entries (s : State) : List Device := s.regEntry.toList.take s.regCount.toNat

/-- REGRD (R143): an entry below the count, packed as R83; any other index is refused. -/
def State.regRead (s : State) (index : Byte) : Returned × State :=
  if s.regCount.toNat ≤ index.toNat then (.failed .indexOutOfRange, s)
  else (.value (packDevice (s.entry index.toNat)), s)

/-! ## The return of an operation -/

/-- The response for what an operation returned (spec/30_encoding.md R82): narrower values are zero-extended;
with a failing kind the value is `FAIL_PAYLOAD`, a draw (log 4). -/
def Returned.response (r : Returned) (draw : Nat) : Response :=
  match r with
  | .value v => ⟨.success, v⟩
  | .classCode c => ⟨.success, (packClass c).setWidth 64⟩
  | .truth b => ⟨.success, (BitVec.ofBool b).setWidth 64⟩
  | .failed f => ⟨f.kind, Config.failPayload draw⟩

/-- How many free values that response draws. -/
def Returned.draws : Returned → Nat
  | .failed _ => 1
  | .value _ => 0
  | .classCode _ => 0
  | .truth _ => 0

/-- Deliver a response to the host (R82, R236): the engine "becomes `Idle` as it hands over the response" (R32,
R200). -/
def State.respond (s : State) (r : Returned) : State :=
  { s with run := .idle, responses := s.responses ++ [r.response s.draws], draws := s.draws + r.draws }

/-- `return (Kind, value)` (R10). With no activation on the cursor the operation is the host's command, and its
return is the response; an operation that an activation's rule issued returns to that rule (log 3). A failing
kind travels this way too: there is no handler, no vector and no saved context (R198). -/
def State.deliver (s : State) (r : Returned) : State :=
  match s.cursor with
  | [] => s.respond r
  | _ :: _ => { s with ret := some r }

/-- Run an operation's rule to its return. -/
def State.complete (p : Returned × State) : State := p.2.deliver p.1

/-- `BadCommand` (R91 to R93, R193): the answer to a command word that names no host operation; no port
transaction and no state change; the engine is Idle again. -/
def State.badCommand (s : State) : State := s.respond (.failed .badCommand)

/-- An internal operation (R92, R201): it has its effect when an activation's rule issues it, and is answered
`BadCommand` when the host does, with no activation on the cursor (log 3). -/
def State.internally (s : State) (effect : State) : State :=
  match s.cursor with
  | [] => s.badCommand
  | _ :: _ => effect

/-- Invoke a scanner procedure: its activation becomes the innermost (R31). -/
def State.call (s : State) (a : Activation) : State := { s with cursor := a :: s.cursor, ret := none }

/-- The innermost activation ends with `r` (R164, R198, R200): `r` goes to the activation that called it, or,
from the last one, to the host as the response, with the engine Idle. -/
def State.finish (s : State) (r : Returned) : State :=
  match s.cursor.tail with
  | [] => { s with cursor := [], ret := none }.respond r
  | a :: rest => { s with cursor := a :: rest, ret := some r }

end Sys2Proof.Machine
end

