-- ==== Sys2Proof/Machine/AddressCodec.lean ====
section
/-! DEFINITION. The Address Codec: ENCODE (spec/40_address_codec.md). -/

namespace Sys2Proof.Machine

/-- ENCODE (R110): the address word, zero-extended; no port transaction, no state written. -/
def execEncodeAddr (bus : BusNo) (dev : DevNo) (fn : FnNo) (offset : Byte) (s : State) :
    Host.Outcome State Fault Refusal :=
  .next (s.deliver (.value ((encodeAddress bus dev fn offset).setWidth 64)))

end Sys2Proof.Machine
end

