-- ==== Sys2Proof/Machine/BarResolver.lean ====
section
/-! DEFINITION. The BAR Resolver: RDBAR (spec/44_bar_resolver.md). -/

namespace Sys2Proof.Machine

/-- RDBAR (R180): the raw value of one BAR, or of a 64-bit pair; no bit is masked (R181). -/
def execRdbar (bus : BusNo) (dev : DevNo) (fn : FnNo) (index : Byte) (s : State) :
    Host.Outcome State Fault Refusal :=
  .next (State.complete (s.readBar bus dev fn index))

end Sys2Proof.Machine
end

