-- ==== Sys2Proof/Machine/ConfigPort.lean ====
section
/-! DEFINITION. The Config-Space Port: the raw primitives, the whole-word accesses and the field readers
(spec/41_config_port.md). None of them can fail. -/

namespace Sys2Proof.Machine

/-- WRADDR (R120): the value is written as given, all 32 bits. -/
def execWraddr (addr : Word) (s : State) : Host.Outcome State Fault Refusal :=
  .next ((s.ioWriteAddr addr).deliver (.value 0))

/-- RDDATA (R121): the word the latch selects now. -/
def execRddata (s : State) : Host.Outcome State Fault Refusal :=
  let r := s.ioReadData
  .next (r.2.deliver (.value (r.1.setWidth 64)))

/-- WRDATA (R122): the word the latch selects now is presented with the value. -/
def execWrdata (value : Word) (s : State) : Host.Outcome State Fault Refusal :=
  .next ((s.ioWriteData value).deliver (.value 0))

/-- CFGRD (R123): the whole 32-bit word, zero-extended. -/
def execCfgrd (bus : BusNo) (dev : DevNo) (fn : FnNo) (offset : Byte) (s : State) :
    Host.Outcome State Fault Refusal :=
  let r := s.readConfig bus dev fn offset
  .next (r.2.deliver (.value (r.1.setWidth 64)))

/-- CFGWR (R124): the whole 32-bit word is written. -/
def execCfgwr (bus : BusNo) (dev : DevNo) (fn : FnNo) (offset : Byte) (value : Word) (s : State) :
    Host.Outcome State Fault Refusal :=
  .next ((s.writeConfig bus dev fn offset value).deliver (.value 0))

/-- RDVENDOR (R125): bits 15:0 of the word at 0x00. -/
def execRdvendor (bus : BusNo) (dev : DevNo) (fn : FnNo) (s : State) : Host.Outcome State Fault Refusal :=
  let r := s.readConfig bus dev fn Config.offVendorDevice
  .next (r.2.deliver (.value ((vendorId r.1).setWidth 64)))

/-- RDDEVID (R126): bits 31:16 of the word at 0x00. -/
def execRddevid (bus : BusNo) (dev : DevNo) (fn : FnNo) (s : State) : Host.Outcome State Fault Refusal :=
  let r := s.readConfig bus dev fn Config.offVendorDevice
  .next (r.2.deliver (.value ((deviceId r.1).setWidth 64)))

/-- RDHDR (R127): bits 23:16 of the word at 0x0C. -/
def execRdhdr (bus : BusNo) (dev : DevNo) (fn : FnNo) (s : State) : Host.Outcome State Fault Refusal :=
  let r := s.readConfig bus dev fn Config.offHeader
  .next (r.2.deliver (.value ((headerType r.1).setWidth 64)))

/-- RDCLASS (R128): the `ClassCode` of the word at 0x08. -/
def execRdclass (bus : BusNo) (dev : DevNo) (fn : FnNo) (s : State) : Host.Outcome State Fault Refusal :=
  let r := s.readConfig bus dev fn Config.offClass
  .next (r.2.deliver (.classCode (classCodeOf r.1)))

/-- RDBUSNUM (R129): the whole word at 0x18. -/
def execRdbusnum (bus : BusNo) (dev : DevNo) (fn : FnNo) (s : State) : Host.Outcome State Fault Refusal :=
  let r := s.readConfig bus dev fn Config.offBusNumbers
  .next (r.2.deliver (.value (r.1.setWidth 64)))

end Sys2Proof.Machine
end

