-- ==== Sys2Proof/Machine/Registry.lean ====
section
/-! DEFINITION. The Device Registry and the predicates on class codes and header types
(spec/42_registry.md). None of these performs a port transaction. -/

namespace Sys2Proof.Machine

/-- REGCNT (R142): the count, zero-extended. -/
def execRegcnt (s : State) : Host.Outcome State Fault Refusal :=
  .next (s.deliver (.value (s.regCount.setWidth 64)))

/-- REGRD (R143). -/
def execRegrd (index : Byte) (s : State) : Host.Outcome State Fault Refusal :=
  .next (State.complete (s.regRead index))

/-- REGRESET (R140), internal. -/
def execRegreset (s : State) : Host.Outcome State Fault Refusal :=
  .next (s.internally (State.complete s.regReset))

/-- REGADD (R141), internal. -/
def execRegadd (device : Device) (s : State) : Host.Outcome State Fault Refusal :=
  .next (s.internally (State.complete (s.regAdd device)))

/-- CCMATCH1 (R144), internal: a boolean, no state. -/
def execCcmatch1 (c : ClassCode) (base : Byte) (s : State) : Host.Outcome State Fault Refusal :=
  .next (s.internally (s.deliver (.truth (matchBase c base))))

/-- CCMATCH2 (R145), internal: a boolean, no state. -/
def execCcmatch2 (c : ClassCode) (base sub : Byte) (s : State) : Host.Outcome State Fault Refusal :=
  .next (s.internally (s.deliver (.truth (matchBaseSub c base sub))))

/-- CCMATCH3 (R146), internal: a boolean, no state. -/
def execCcmatch3 (c : ClassCode) (base sub interface : Byte) (s : State) :
    Host.Outcome State Fault Refusal :=
  .next (s.internally (s.deliver (.truth (matchAll c base sub interface))))

/-- ISSINGLE (R147), internal: a boolean, no state. -/
def execIssingle (header : Byte) (s : State) : Host.Outcome State Fault Refusal :=
  .next (s.internally (s.deliver (.truth (isSingle header))))

end Sys2Proof.Machine
end

