-- ==== Sys2Proof/Machine/Scanner.lean ====
section
/-! DEFINITION. The Bus Scanner (spec/43_scanner.md): SCANALL, SCANBUS, SCANDEV, SCANFN, and the sequencer
that performs their rules from the traversal cursor (spec/10_state.md R31), one operation at a time. The
recursion of R161 to R163 is the explicit stack that R168 allows. -/

namespace Sys2Proof.Machine

/-- SCANALL (R160): its activation is put on the cursor, and the engine stays Busy (R32) while the sequencer
performs it. With an activation there already no second scan starts (R62, R228; log 16). -/
def execScanall (s : State) : Host.Outcome State Fault Refusal :=
  .next (match s.cursor with
    | [] => { s with run := .busy, cursor := [.scanAll .start 1], ret := none }
    | _ :: _ => s)

/-- SCANBUS (R161), internal: its activation becomes the innermost. -/
def execScanbus (bus : BusNo) (s : State) : Host.Outcome State Fault Refusal :=
  .next (s.internally (s.call (.scanBus .start bus 0)))

/-- SCANDEV (R162), internal: its activation becomes the innermost. -/
def execScandev (bus : BusNo) (dev : DevNo) (s : State) : Host.Outcome State Fault Refusal :=
  .next (s.internally (s.call (.scanDev .start bus dev 1)))

/-- SCANFN (R163), internal: its activation becomes the innermost. -/
def execScanfn (bus : BusNo) (dev : DevNo) (fn : FnNo) (s : State) : Host.Outcome State Fault Refusal :=
  .next (s.internally (s.call (.scanFn .start bus dev fn 0 .zero)))

/-! ## The sequencer -/

/-- What an activation does next: issue an operation and wait at a place, end with a return, or neither,
because the return it waits for is not there (log 17). -/
inductive Action where
  | issue (i : Instr) (a : Activation)
  | finish (r : Returned)
  | lost
  deriving DecidableEq, Repr

/-- A vendor id returned by RDVENDOR is the sentinel (R125, spec/20_memory.md R56). -/
def isAbsent (v : Word64) : Bool := v == Config.absentVendor.setWidth 64

/-- SCANALL's loop on function `f` of 0:0 (R160); it ends after 7. -/
def nextRoot (f : Nat) : Action :=
  if f < Config.numFunctions then .issue (.rdvendor 0 0 (BitVec.ofNat 3 f)) (.scanAll .vendor f)
  else .finish (.value 0)

/-- SCANBUS's loop on device `d` (R161); it ends after 31. -/
def nextDevice (bus : BusNo) (d : Nat) : Action :=
  if d < Config.numDevices then .issue (.rdvendor bus (BitVec.ofNat 5 d) 0) (.scanBus .vendor bus d)
  else .finish (.value 0)

/-- SCANDEV's loop on function `f` (R162); it ends after 7. -/
def nextFunction (bus : BusNo) (dev : DevNo) (f : Nat) : Action :=
  if f < Config.numFunctions then .issue (.rdvendor bus dev (BitVec.ofNat 3 f)) (.scanDev .vendor bus dev f)
  else .finish (.value 0)

/-- After a scanner procedure or REGADD returned (R164): a failing kind ends this activation unchanged, a
success goes on. -/
def onReturn (ret : Option Returned) (goOn : Action) : Action :=
  match ret with
  | some (.failed f) => .finish (.failed f)
  | some (.value _) => goOn
  | some (.classCode _) => .lost
  | some (.truth _) => .lost
  | none => .lost

/-- After an operation returned a value. -/
def onValue (ret : Option Returned) (goOn : Word64 → Action) : Action :=
  match ret with
  | some (.value v) => goOn v
  | some (.failed _) => .lost
  | some (.classCode _) => .lost
  | some (.truth _) => .lost
  | none => .lost

/-- After a predicate returned. -/
def onTruth (ret : Option Returned) (ifTrue ifFalse : Action) : Action :=
  match ret with
  | some (.truth true) => ifTrue
  | some (.truth false) => ifFalse
  | some (.value _) => .lost
  | some (.failed _) => .lost
  | some (.classCode _) => .lost
  | none => .lost

/-- After RDCLASS returned. -/
def onClass (ret : Option Returned) (goOn : ClassCode → Action) : Action :=
  match ret with
  | some (.classCode c) => goOn c
  | some (.value _) => .lost
  | some (.failed _) => .lost
  | some (.truth _) => .lost
  | none => .lost

/-- SCANALL's rule (R160). -/
def scanAllAction (place : AllPlace) (f : Nat) (ret : Option Returned) : Action :=
  match place with
  | .start => .issue .regreset (.scanAll .reset f)
  | .reset => onReturn ret (.issue (.rdhdr 0 0 0) (.scanAll .header f))
  | .header => onValue ret fun h => .issue (.issingle (h.setWidth 8)) (.scanAll .single f)
  | .single => onTruth ret (.issue (.scanbus 0) (.scanAll .root f)) (nextRoot 1)
  | .root => onReturn ret (.finish (.value 0))
  | .vendor => onValue ret fun v =>
      if isAbsent v then nextRoot (f + 1) else .issue (.scanbus (functionAsBus f)) (.scanAll .segment f)
  | .segment => onReturn ret (nextRoot (f + 1))

/-- SCANBUS's rule (R161). -/
def scanBusAction (place : BusPlace) (bus : BusNo) (d : Nat) (ret : Option Returned) : Action :=
  match place with
  | .start => nextDevice bus 0
  | .vendor => onValue ret fun v =>
      if isAbsent v then nextDevice bus (d + 1)
      else .issue (.scandev bus (BitVec.ofNat 5 d)) (.scanBus .device bus d)
  | .device => onReturn ret (nextDevice bus (d + 1))

/-- SCANDEV's rule (R162): the header type is read again after `SCANFN(bus, dev, 0)` has returned (D17). -/
def scanDevAction (place : DevPlace) (bus : BusNo) (dev : DevNo) (f : Nat) (ret : Option Returned) : Action :=
  match place with
  | .start => .issue (.scanfn bus dev 0) (.scanDev .first bus dev f)
  | .first => onReturn ret (.issue (.rdhdr bus dev 0) (.scanDev .header bus dev f))
  | .header => onValue ret fun h => .issue (.issingle (h.setWidth 8)) (.scanDev .single bus dev f)
  | .single => onTruth ret (.finish (.value 0)) (nextFunction bus dev 1)
  | .vendor => onValue ret fun v =>
      if isAbsent v then nextFunction bus dev (f + 1)
      else .issue (.scanfn bus dev (BitVec.ofNat 3 f)) (.scanDev .function bus dev f)
  | .function => onReturn ret (nextFunction bus dev (f + 1))

/-- SCANFN's rule (R163): class word, then header word (D16), REGADD, the bridge test, and for a bridge the
bus-numbers word and the scan of its secondary bus. -/
def scanFnAction (place : FnPlace) (bus : BusNo) (dev : DevNo) (fn : FnNo) (header : Byte) (c : ClassCode)
    (ret : Option Returned) : Action :=
  match place with
  | .start => .issue (.rdclass bus dev fn) (.scanFn .classCode bus dev fn header c)
  | .classCode => onClass ret fun c' => .issue (.rdhdr bus dev fn) (.scanFn .header bus dev fn header c')
  | .header => onValue ret fun h =>
      .issue (.regadd ⟨bus, dev, fn, h.setWidth 8, c⟩) (.scanFn .add bus dev fn (h.setWidth 8) c)
  | .add => onReturn ret
      (.issue (.ccmatch2 c Config.bridgeBase Config.bridgeSub) (.scanFn .bridge bus dev fn header c))
  | .bridge => onTruth ret (.issue (.rdbusnum bus dev fn) (.scanFn .busNumbers bus dev fn header c))
      (.finish (.value 0))
  | .busNumbers => onValue ret fun w =>
      .issue (.scanbus (secondaryBus (w.setWidth 32))) (.scanFn .below bus dev fn header c)
  | .below => onReturn ret (.finish (.value 0))

/-- What the innermost activation does next, given what the operation it issued returned. -/
def nextAction (a : Activation) (ret : Option Returned) : Action :=
  match a with
  | .scanAll place f => scanAllAction place f ret
  | .scanBus place bus d => scanBusAction place bus d ret
  | .scanDev place bus dev f => scanDevAction place bus dev f ret
  | .scanFn place bus dev fn header c => scanFnAction place bus dev fn header c ret

end Sys2Proof.Machine
end

