-- ==== Sys2Proof/Machine/Dispatch.lean ====
section
/-! DEFINITION. The meaning of each operation of spec/opcode_table.json: one arm per constructor. -/

namespace Sys2Proof.Machine

def exec (i : Instr) (s : State) : Host.Outcome State Fault Refusal :=
  match i with
  | .encodeAddr bus dev fn offset => Sys2Proof.Machine.execEncodeAddr bus dev fn offset s
  | .wraddr addr => Sys2Proof.Machine.execWraddr addr s
  | .rddata => Sys2Proof.Machine.execRddata s
  | .wrdata value => Sys2Proof.Machine.execWrdata value s
  | .cfgrd bus dev fn offset => Sys2Proof.Machine.execCfgrd bus dev fn offset s
  | .cfgwr bus dev fn offset value => Sys2Proof.Machine.execCfgwr bus dev fn offset value s
  | .rdvendor bus dev fn => Sys2Proof.Machine.execRdvendor bus dev fn s
  | .rddevid bus dev fn => Sys2Proof.Machine.execRddevid bus dev fn s
  | .rdhdr bus dev fn => Sys2Proof.Machine.execRdhdr bus dev fn s
  | .rdclass bus dev fn => Sys2Proof.Machine.execRdclass bus dev fn s
  | .rdbusnum bus dev fn => Sys2Proof.Machine.execRdbusnum bus dev fn s
  | .rdbar bus dev fn index => Sys2Proof.Machine.execRdbar bus dev fn index s
  | .scanall => Sys2Proof.Machine.execScanall s
  | .regcnt => Sys2Proof.Machine.execRegcnt s
  | .regrd index => Sys2Proof.Machine.execRegrd index s
  | .regreset => Sys2Proof.Machine.execRegreset s
  | .regadd device => Sys2Proof.Machine.execRegadd device s
  | .scanbus bus => Sys2Proof.Machine.execScanbus bus s
  | .scandev bus dev => Sys2Proof.Machine.execScandev bus dev s
  | .scanfn bus dev fn => Sys2Proof.Machine.execScanfn bus dev fn s
  | .ccmatch1 c base => Sys2Proof.Machine.execCcmatch1 c base s
  | .ccmatch2 c base sub => Sys2Proof.Machine.execCcmatch2 c base sub s
  | .ccmatch3 c base sub interface => Sys2Proof.Machine.execCcmatch3 c base sub interface s
  | .issingle header => Sys2Proof.Machine.execIssingle header s

end Sys2Proof.Machine
end

