-- ==== Sys2Proof/Decode.lean ====
section
/-! DEFINITION. The command word (spec/30_encoding.md R81, R85, R91 to R94): its fields, the decoder, and
after it the encoder. -/

namespace Sys2Proof

/-- `op`, bits 63:56 (R81). -/
abbrev opField (w : Word64) : Byte := w.extractLsb' 56 8
/-- `bus`, bits 55:48 (R81). -/
abbrev busField (w : Word64) : BusNo := w.extractLsb' 48 8
/-- `dev`, bits 47:43 (R81). -/
abbrev devField (w : Word64) : DevNo := w.extractLsb' 43 5
/-- `fn`, bits 42:40 (R81). -/
abbrev fnField (w : Word64) : FnNo := w.extractLsb' 40 3
/-- `arg`, bits 39:32 (R81). -/
abbrev argField (w : Word64) : Byte := w.extractLsb' 32 8
/-- `data`, bits 31:0 (R81). -/
abbrev dataField (w : Word64) : Word := w.extractLsb' 0 32

/-- What a command word names (R85, R91): an operation, or nothing (an illegal opcode, given by name). -/
inductive Decoded where
  | command (i : Instr)
  | illegal (op : Byte)
  deriving DecidableEq, Repr

/-- The decoder (R85). It tests `op` alone (R93); fields an operation does not use are not read. An internal
code gives the internal operation's bare name (R92; log 3). Every other `op` is illegal (R91). -/
def decode (w : Word64) : Decoded :=
  match opField w with
  | 0x01#8 => .command (.encodeAddr (busField w) (devField w) (fnField w) (argField w))
  | 0x02#8 => .command (.wraddr (dataField w))
  | 0x03#8 => .command .rddata
  | 0x04#8 => .command (.wrdata (dataField w))
  | 0x05#8 => .command (.cfgrd (busField w) (devField w) (fnField w) (argField w))
  | 0x06#8 => .command (.cfgwr (busField w) (devField w) (fnField w) (argField w) (dataField w))
  | 0x07#8 => .command (.rdvendor (busField w) (devField w) (fnField w))
  | 0x08#8 => .command (.rddevid (busField w) (devField w) (fnField w))
  | 0x09#8 => .command (.rdhdr (busField w) (devField w) (fnField w))
  | 0x0A#8 => .command (.rdclass (busField w) (devField w) (fnField w))
  | 0x0B#8 => .command (.rdbusnum (busField w) (devField w) (fnField w))
  | 0x0C#8 => .command (.rdbar (busField w) (devField w) (fnField w) (argField w))
  | 0x0D#8 => .command .scanall
  | 0x0E#8 => .command .regcnt
  | 0x0F#8 => .command (.regrd (argField w))
  | 0x80#8 => .command .regreset
  | 0x81#8 => .command (.regadd .zero)
  | 0x82#8 => .command (.scanbus 0)
  | 0x83#8 => .command (.scandev 0 0)
  | 0x84#8 => .command (.scanfn 0 0 0)
  | 0x85#8 => .command (.ccmatch1 .zero 0)
  | 0x86#8 => .command (.ccmatch2 .zero 0 0)
  | 0x87#8 => .command (.ccmatch3 .zero 0 0 0)
  | 0x88#8 => .command (.issingle 0)
  | op => .illegal op

/-- The opcode numbers of R85. -/
def Instr.opcode : Instr → Byte
  | .encodeAddr _ _ _ _ => 0x01
  | .wraddr _ => 0x02
  | .rddata => 0x03
  | .wrdata _ => 0x04
  | .cfgrd _ _ _ _ => 0x05
  | .cfgwr _ _ _ _ _ => 0x06
  | .rdvendor _ _ _ => 0x07
  | .rddevid _ _ _ => 0x08
  | .rdhdr _ _ _ => 0x09
  | .rdclass _ _ _ => 0x0A
  | .rdbusnum _ _ _ => 0x0B
  | .rdbar _ _ _ _ => 0x0C
  | .scanall => 0x0D
  | .regcnt => 0x0E
  | .regrd _ => 0x0F
  | .regreset => 0x80
  | .regadd _ => 0x81
  | .scanbus _ => 0x82
  | .scandev _ _ => 0x83
  | .scanfn _ _ _ => 0x84
  | .ccmatch1 _ _ => 0x85
  | .ccmatch2 _ _ _ => 0x86
  | .ccmatch3 _ _ _ _ => 0x87
  | .issingle _ => 0x88

/-- A command word from its fields, `op` in the highest bits (R81). -/
def commandWord (op : Byte) (bus : BusNo) (dev : DevNo) (fn : FnNo) (arg : Byte) (data : Word) : Word64 :=
  op ++ bus ++ dev ++ fn ++ arg ++ data

/-- The encoder: fields an operation does not use encode as 0 (R95), and so do the arguments of an internal
operation, which no word carries (R92). -/
def encode (i : Instr) : Word64 :=
  match i with
  | .encodeAddr bus dev fn offset => commandWord i.opcode bus dev fn offset 0
  | .wraddr addr => commandWord i.opcode 0 0 0 0 addr
  | .wrdata value => commandWord i.opcode 0 0 0 0 value
  | .cfgrd bus dev fn offset => commandWord i.opcode bus dev fn offset 0
  | .cfgwr bus dev fn offset value => commandWord i.opcode bus dev fn offset value
  | .rdvendor bus dev fn => commandWord i.opcode bus dev fn 0 0
  | .rddevid bus dev fn => commandWord i.opcode bus dev fn 0 0
  | .rdhdr bus dev fn => commandWord i.opcode bus dev fn 0 0
  | .rdclass bus dev fn => commandWord i.opcode bus dev fn 0 0
  | .rdbusnum bus dev fn => commandWord i.opcode bus dev fn 0 0
  | .rdbar bus dev fn index => commandWord i.opcode bus dev fn index 0
  | .regrd index => commandWord i.opcode 0 0 0 index 0
  | .rddata => commandWord i.opcode 0 0 0 0 0
  | .scanall => commandWord i.opcode 0 0 0 0 0
  | .regcnt => commandWord i.opcode 0 0 0 0 0
  | .regreset => commandWord i.opcode 0 0 0 0 0
  | .regadd _ => commandWord i.opcode 0 0 0 0 0
  | .scanbus _ => commandWord i.opcode 0 0 0 0 0
  | .scandev _ _ => commandWord i.opcode 0 0 0 0 0
  | .scanfn _ _ _ => commandWord i.opcode 0 0 0 0 0
  | .ccmatch1 _ _ => commandWord i.opcode 0 0 0 0 0
  | .ccmatch2 _ _ _ => commandWord i.opcode 0 0 0 0 0
  | .ccmatch3 _ _ _ _ => commandWord i.opcode 0 0 0 0 0
  | .issingle _ => commandWord i.opcode 0 0 0 0 0

/-- The command word whose lowest `nbits` bits are `w`'s and whose other bits are 0. Every command word is
64 bits and is handed over whole (R81, R94), so there is no byte order to choose. -/
def tableWord (nbits w : Nat) : Word64 := BitVec.ofNat 64 (w % 2 ^ nbits)

/-- The operation the decoder reads from a table row's word; none where the word names no operation. -/
def decodeTableWord (nbits w : Nat) : Option Instr :=
  match decode (tableWord nbits w) with
  | .command i => some i
  | .illegal _ => none

end Sys2Proof
end

