-- ==== Sys2Proof/Machine/Engine.lean ====
section
/-! DEFINITION. What the engine does next (spec/10_state.md R32): accept a command when Idle, perform the
traversal cursor when Busy. -/

namespace Sys2Proof.Machine

/-- What the engine does next: nothing (no command is there), run an operation from a state, reach a state,
or stop (log 17). -/
inductive Control where
  | wait
  | run (i : Instr) (s : State)
  | goTo (s : State)
  | stop (f : Fault)
  deriving DecidableEq, Repr

/-- Take the host's next command off its list, leaving `rest`: "accepting makes it `Busy`" (R32), and there is no
activation yet (R31). -/
def State.takeCommand (s : State) (rest : List Word64) : State :=
  { s with run := .busy, cursor := [], commands := rest }

/-- Perform an accepted command word (R32, R91, R193): the decoder's check comes before anything else happens
(spec/60_exceptions.md R197). -/
def State.accept (s : State) (w : Word64) : Control :=
  match decode w with
  | .command i => .run i s
  | .illegal _ => .goTo s.badCommand

/-- The innermost activation goes on (R31). -/
def State.advance (s : State) (a : Activation) (rest : List Activation) : Control :=
  match nextAction a s.ret with
  | .issue i a' => .run i { s with cursor := a' :: rest, ret := none }
  | .finish r => .goTo (s.finish r)
  | .lost => .stop .lostReturn

/-- What the engine does next (R32). A command is accepted only when Idle; an Idle engine without a command
waits (R36; log 1). -/
def State.control (s : State) : Control :=
  match s.run with
  | .idle =>
    match s.commands with
    | [] => .wait
    | w :: rest => (s.takeCommand rest).accept w
  | .busy =>
    match s.cursor with
    | [] => .stop .lostCursor
    | a :: rest => s.advance a rest

/-- The command word put at the head of the host's commands, with the engine Idle, so that it is the next one
accepted (log 1). -/
def State.withCommand (s : State) (w : Word64) : State :=
  { s with run := .idle, cursor := [], ret := none, commands := w :: s.commands }

end Sys2Proof.Machine
end

