-- ==== Sys2Proof/Machine/Step.lean ====
section
/-! DEFINITION. One step of the block: one host command, from its acceptance (Busy) to its response (Idle), or,
while a scan runs, one operation the sequencer issues or one return of an activation (log 2). -/

namespace Sys2Proof.Machine

/-- One step. Every operation, the host's and the sequencer's, runs through `exec`. -/
def step (s : State) : Host.Outcome State Fault Refusal :=
  match s.control with
  | .wait => .next s
  | .run i s' => exec i s'
  | .goTo s' => .next s'
  | .stop f => .fault f

/-- `s` with a table row's word as the host's next command: the host issues commands, the block has no
program store (spec/10_state.md R34), so this stands for the host issuing it (log 1). -/
def State.withFetchWord (s : State) (nbits w : Nat) : State := s.withCommand (tableWord nbits w)

end Sys2Proof.Machine
end

