-- ==== Sys2Proof/Safety.lean ====
section
/-! DEFINITION. The terms in which claims about the block are made: the effect of a round trip in one
record, the discipline of the port pair, the invariant of the engine, and the recursion of
spec/43_scanner.md R160 to R163 that the engine's explicit stack stands for (R168). -/

namespace Sys2Proof.Machine

/-! ## One round trip, where no external agent acts (spec/70_reset_and_hazards.md R227) -/

/-- The state after `WA(a), RD(v)`, `v` being what the platform answers for `a` (R123, R130). -/
def State.afterRead (s : State) (a : Word) : State :=
  { s with
    cfgAddr := a
    trace := s.trace ++ [.wa a, .rd (s.answerAt s.draws a)]
    draws := s.draws + s.answerDraws a }

/-- The state after `WA(a), WD(v)` (R124, R130). -/
def State.afterWrite (s : State) (a v : Word) : State :=
  { s with
    cfgAddr := a
    cfg := s.cfgAfterWrite a
    trace := s.trace ++ [.wa a, .wd v] }

/-! ## The port pair -/

/-- A `WA` event. -/
def Event.isAddr : Event → Bool
  | .wa _ => true
  | .rd _ => false
  | .wd _ => false

/-- A data event, `RD` or `WD`. -/
def Event.isData (e : Event) : Bool := !e.isAddr

/-- `PortDiscipline` (R224): "a concatenation of round trips". -/
def portDiscipline : List Event → Bool
  | [] => true
  | [_] => false
  | e :: e' :: rest => e.isAddr && e'.isData && portDiscipline rest

/-- The value of the last `WA` of a trace. -/
def lastAddr (t : List Event) : Option Word :=
  t.foldl (fun last e => match e with
    | .wa v => some v
    | .rd _ => last
    | .wd _ => last) none

/-- No external port agent acts, and the latch holds the value of the trace's last `WA` (R35, R227). -/
def State.latchIsLast (s : State) : Prop :=
  s.external = [] ∧ ∀ a, lastAddr s.trace = some a → s.cfgAddr = a

/-- The answers of a trace's round trips are those of one function of the address: `StaticCfg` for the span
of that trace (spec/20_memory.md R58). -/
def consistentWith (read : Word → Word) : List Event → Prop
  | [] => True
  | [_] => True
  | e :: e' :: rest =>
    (∀ a v, e = .wa a → e' = .rd v → v = read a) ∧ consistentWith read (e' :: rest)

/-! ## The invariant of the engine -/

/-- What an activation waits for at its place. -/
inductive Wait where
  | nothing    -- it has issued nothing yet
  | value
  | truth
  | classCode
  | result     -- the return of REGADD, REGRESET or a scanner procedure, which may be a failing kind
  deriving DecidableEq, Repr

/-- What an activation waits for (the lines of R160 to R163). -/
def Activation.waitsFor : Activation → Wait
  | .scanAll .start _ => .nothing
  | .scanAll .reset _ => .result
  | .scanAll .header _ => .value
  | .scanAll .single _ => .truth
  | .scanAll .root _ => .result
  | .scanAll .vendor _ => .value
  | .scanAll .segment _ => .result
  | .scanBus .start _ _ => .nothing
  | .scanBus .vendor _ _ => .value
  | .scanBus .device _ _ => .result
  | .scanDev .start _ _ _ => .nothing
  | .scanDev .first _ _ _ => .result
  | .scanDev .header _ _ _ => .value
  | .scanDev .single _ _ _ => .truth
  | .scanDev .vendor _ _ _ => .value
  | .scanDev .function _ _ _ => .result
  | .scanFn .start _ _ _ _ _ => .nothing
  | .scanFn .classCode _ _ _ _ _ => .classCode
  | .scanFn .header _ _ _ _ _ => .value
  | .scanFn .add _ _ _ _ _ => .result
  | .scanFn .bridge _ _ _ _ _ => .truth
  | .scanFn .busNumbers _ _ _ _ _ => .value
  | .scanFn .below _ _ _ _ _ => .result

/-- A value stands in the return latch. -/
def isValue : Option Returned → Bool
  | some (.value _) => true
  | some (.classCode _) => false
  | some (.truth _) => false
  | some (.failed _) => false
  | none => false

/-- A boolean stands in the return latch. -/
def isTruth : Option Returned → Bool
  | some (.value _) => false
  | some (.classCode _) => false
  | some (.truth _) => true
  | some (.failed _) => false
  | none => false

/-- A `ClassCode` stands in the return latch. -/
def isClass : Option Returned → Bool
  | some (.value _) => false
  | some (.classCode _) => true
  | some (.truth _) => false
  | some (.failed _) => false
  | none => false

/-- The return latch holds what is waited for. The only failing kind that can arise inside a scan is `Full`
(R164), and then the registry is full (R191). -/
def Wait.fits (w : Wait) (ret : Option Returned) (count : BitVec 6) : Bool :=
  match w with
  | .nothing => ret.isNone
  | .value => isValue ret
  | .truth => isTruth ret
  | .classCode => isClass ret
  | .result => isValue ret || (decide (ret = some (.failed .full)) && count == 32)

/-- The bus of an activation of SCANBUS. -/
def Activation.busArgument : Activation → Option BusNo
  | .scanAll _ _ => none
  | .scanBus _ bus _ => some bus
  | .scanDev _ _ _ _ => none
  | .scanFn _ _ _ _ _ _ => none

/-- The device of an activation of SCANDEV. -/
def Activation.devArgument : Activation → Option (BusNo × DevNo)
  | .scanAll _ _ => none
  | .scanBus _ _ _ => none
  | .scanDev _ bus dev _ => some (bus, dev)
  | .scanFn _ _ _ _ _ _ => none

/-- The function of an activation of SCANFN. -/
def Activation.fnArgument : Activation → Option (BusNo × DevNo × FnNo)
  | .scanAll _ _ => none
  | .scanBus _ _ _ => none
  | .scanDev _ _ _ _ => none
  | .scanFn _ bus dev fn _ _ => some (bus, dev, fn)

/-- The activation `caller`, at its place, is the one that called `callee` with the arguments it has. -/
def Activation.calls (caller callee : Activation) : Bool :=
  match caller with
  | .scanAll place f =>
    (place == .root && callee.busArgument == some 0) ||
    (place == .segment && callee.busArgument == some (functionAsBus f))
  | .scanBus place bus d => place == .device && callee.devArgument == some (bus, BitVec.ofNat 5 d)
  | .scanDev place bus dev f =>
    (place == .first && callee.fnArgument == some (bus, dev, 0)) ||
    (place == .function && callee.fnArgument == some (bus, dev, BitVec.ofNat 3 f))
  | .scanFn place _ _ _ _ _ => place == .below && callee.busArgument.isSome

/-- The loop indices of R31: the device index 0..31, the function indices 1..7. -/
def Activation.inRange : Activation → Bool
  | .scanAll _ f => decide (1 ≤ f) && decide (f ≤ 7)
  | .scanBus _ _ d => decide (d ≤ 31)
  | .scanDev _ _ _ f => decide (1 ≤ f) && decide (f ≤ 7)
  | .scanFn _ _ _ _ _ _ => true

/-- The activation is SCANALL's. -/
def Activation.isScanAll : Activation → Bool
  | .scanAll _ _ => true
  | .scanBus _ _ _ => false
  | .scanDev _ _ _ _ => false
  | .scanFn _ _ _ _ _ _ => false

/-- The activation is SCANBUS's. -/
def Activation.isScanBus (a : Activation) : Bool := a.busArgument.isSome

/-- Every activation of the cursor, innermost first, was called by the next one, and the last is SCANALL's. -/
def cursorLinked : List Activation → Bool
  | [] => true
  | a :: rest =>
    match rest with
    | [] => a.isScanAll
    | b :: _ => b.calls a && cursorLinked rest

/-- Whether SCANFN's `Device` has been added at a place (R163). -/
def FnPlace.afterAdd : FnPlace → Bool
  | .start => false
  | .classCode => false
  | .header => false
  | .add => false
  | .bridge => true
  | .busNumbers => true
  | .below => true

/-- An activation of SCANFN whose `Device` REGADD has added (R163). -/
def Activation.hasAdded : Activation → Bool
  | .scanAll _ _ => false
  | .scanBus _ _ _ => false
  | .scanDev _ _ _ _ => false
  | .scanFn place _ _ _ _ _ => place.afterAdd

/-- An activation of SCANFN that waits for REGADD. -/
def Activation.isAdding : Activation → Bool
  | .scanAll _ _ => false
  | .scanBus _ _ _ => false
  | .scanDev _ _ _ _ => false
  | .scanFn place _ _ _ _ _ => place == .add

/-- One more entry is in the registry while REGADD's success waits in the return latch. -/
def addPending (cursor : List Activation) (ret : Option Returned) : Nat :=
  match cursor with
  | [] => 0
  | a :: _ => if a.isAdding && isValue ret then 1 else 0

/-- The activations of SCANFN that hold a registry entry of their own (R168). -/
def entriesHeld (cursor : List Activation) (ret : Option Returned) : Nat :=
  cursor.countP Activation.hasAdded + addPending cursor ret

/-- The live activations of SCANBUS (R168). -/
def busDepth (cursor : List Activation) : Nat := cursor.countP Activation.isScanBus

/-- The innermost activation finds what it waits for. -/
def headFits (cursor : List Activation) (ret : Option Returned) (count : BitVec 6) : Bool :=
  match cursor with
  | [] => false
  | a :: _ => a.waitsFor.fits ret count

/-- The invariant of the block: the count is at most 32 (R23, R148); the configuration words are in canonical
form; an Idle engine has no cursor (R31, R32); a Busy one has a cursor whose activations called one another,
with their loop indices in range, the innermost finding what it waits for, and with at most as many
activations holding an entry as the registry has entries (R168). -/
def State.Inv (s : State) : Prop :=
  s.regCount.toNat ≤ 32 ∧ Memory.wf s.cfg = true ∧
  match s.run with
  | .idle => s.cursor = [] ∧ s.ret = none
  | .busy =>
    cursorLinked s.cursor = true ∧ s.cursor.all Activation.inRange = true ∧
    headFits s.cursor s.ret s.regCount = true ∧ entriesHeld s.cursor s.ret ≤ s.regCount.toNat

/-! ## The recursion of spec/43_scanner.md R160 to R163 -/

/-- What a scan has done so far: the index of the platform's next answer, the port transactions and the
devices added, oldest first. -/
structure ScanLog where
  next : Nat
  events : List Event
  devices : List Device

/-- One round trip of a read helper (R130), answered by the platform's next answer. -/
def ScanLog.ask (answers : Nat → Word) (a : Word) (g : ScanLog) : Word × ScanLog :=
  (answers g.next,
   { g with next := g.next + 1, events := g.events ++ [.wa a, .rd (answers g.next)] })

/-- What a scanner procedure returns (R161 to R163): a failing kind or none, and the log. -/
abbrev ScanResult := Option Failure × ScanLog

/-- A loop over `count` indices from `i`, which the first failing kind ends (R164). -/
def scanLoop (body : Nat → ScanLog → ScanResult) : (count i : Nat) → ScanLog → ScanResult
  | 0, _, g => (none, g)
  | count + 1, i, g =>
    match body i g with
    | (some f, g') => (some f, g')
    | (none, g') => scanLoop body count (i + 1) g'

/-- SCANFN (R163); `down` is SCANBUS. -/
def recFn (answers : Nat → Word) (down : BusNo → ScanLog → ScanResult) (bus : BusNo) (dev : DevNo)
    (fn : FnNo) (g : ScanLog) : ScanResult :=
  let c := g.ask answers (encodeAddress bus dev fn Config.offClass)
  let h := c.2.ask answers (encodeAddress bus dev fn Config.offHeader)
  if h.2.devices.length = Config.regCapacity then (some .full, h.2)
  else
    let added := { h.2 with
      devices := h.2.devices ++ [⟨bus, dev, fn, headerType h.1, classCodeOf c.1⟩] }
    if matchBaseSub (classCodeOf c.1) Config.bridgeBase Config.bridgeSub then
      let w := added.ask answers (encodeAddress bus dev fn Config.offBusNumbers)
      down (secondaryBus w.1) w.2
    else (none, added)

/-- SCANDEV (R162). -/
def recDev (answers : Nat → Word) (down : BusNo → ScanLog → ScanResult) (bus : BusNo) (dev : DevNo)
    (g : ScanLog) : ScanResult :=
  match recFn answers down bus dev 0 g with
  | (some f, g') => (some f, g')
  | (none, g') =>
    let h := g'.ask answers (encodeAddress bus dev 0 Config.offHeader)
    if isSingle (headerType h.1) then (none, h.2)
    else scanLoop (fun f g =>
      let v := g.ask answers (encodeAddress bus dev (BitVec.ofNat 3 f) Config.offVendorDevice)
      if vendorId v.1 = Config.absentVendor then (none, v.2)
      else recFn answers down bus dev (BitVec.ofNat 3 f) v.2) 7 1 h.2

/-- SCANBUS (R161) with room for `depth` activations of it; without room nothing is scanned, which with 33
never happens (R168). -/
def recBus (answers : Nat → Word) : (depth : Nat) → BusNo → ScanLog → ScanResult
  | 0, _, g => (none, g)
  | depth + 1, bus, g =>
    scanLoop (fun d g =>
      let v := g.ask answers (encodeAddress bus (BitVec.ofNat 5 d) 0 Config.offVendorDevice)
      if vendorId v.1 = Config.absentVendor then (none, v.2)
      else recDev answers (recBus answers depth) bus (BitVec.ofNat 5 d) v.2) 32 0 g

/-- SCANALL (R160), from an empty registry. -/
def recAll (answers : Nat → Word) : ScanResult :=
  let h := ScanLog.ask answers (encodeAddress 0 0 0 Config.offHeader) ⟨0, [], []⟩
  if isSingle (headerType h.1) then recBus answers Config.stackDepth 0 h.2
  else scanLoop (fun f g =>
    let v := g.ask answers (encodeAddress 0 0 (BitVec.ofNat 3 f) Config.offVendorDevice)
    if vendorId v.1 = Config.absentVendor then (none, v.2)
    else recBus answers Config.stackDepth (functionAsBus f) v.2) 7 1 h.2

end Sys2Proof.Machine
end

