-- ==== Sys2Proof/Certificates/Slice0/Obligations.lean ====
section
/-! DEFINITION. The statements about the block. `exec` answers `Host.Outcome.next`; where a statement speaks of
configuration accesses it carries the premise of spec/70_reset_and_hazards.md R227 that no external port
agent acts (`s.external = []`), and two statements say what happens without it. -/

open Sys2Proof Sys2Proof.Machine

/-! ## Command words -/

/-- R81, R85, R95: decoding an encoded operation gives it back, for every operation a command word can carry
and every operand. -/
def Obligations.DecodeOfEncodeIsTheInstruction : Prop :=
  ∀ i : Instr, i.wellFormed = true → decode (encode i) = .command i

/-- R85, R92: what a word decodes to is an operation a word can carry, of the word's own opcode. -/
def Obligations.DecodedInstructionHasTheOpcode : Prop :=
  ∀ (w : Word64) (i : Instr), decode w = .command i → i.wellFormed = true ∧ i.opcode = opField w

/-- R93 (the spec's decision D8): decoding reads `op` and the fields R85 lists for the opcode, nothing else. -/
def Obligations.UnusedFieldsDoNotChangeDecoding : Prop :=
  ∀ w w' : Word64, opField w = opField w' →
    (opField w ∈ ([0x01, 0x05, 0x06, 0x07, 0x08, 0x09, 0x0A, 0x0B, 0x0C] : List Byte) →
      busField w = busField w' ∧ devField w = devField w' ∧ fnField w = fnField w') →
    (opField w ∈ ([0x01, 0x05, 0x06, 0x0C, 0x0F] : List Byte) → argField w = argField w') →
    (opField w ∈ ([0x02, 0x04, 0x06] : List Byte) → dataField w = dataField w') →
    decode w = decode w'

/-- R91 (the spec's decision D6): a word names no operation exactly when its opcode is 0x00, 0x10 to 0x7F, or
0x89 to 0xFF. -/
def Obligations.IllegalWordsAreThoseOfTheIllegalOpcodes : Prop :=
  ∀ w : Word64, decode w = .illegal (opField w) ↔
    (opField w = 0x00 ∨ (0x10 ≤ (opField w).toNat ∧ (opField w).toNat ≤ 0x7F) ∨ 0x89 ≤ (opField w).toNat)

/-- The command words that R95 and the vectors V-CMD write out decode to what they stand for. That the internal
code 0x82, which V-CMD row 6 calls SCANBUS, is given with an argument of zero is the model's choice (log 3). -/
def Obligations.WrittenWordsDecode : Prop :=
  decode 0x0101131000000000 = .command (.encodeAddr 1 2 3 0x10) ∧
  decode 0x0200000080001808 = .command (.wraddr 0x80001808) ∧
  decode 0x0600FFFFDEADBEEF = .command (.cfgwr 0 31 7 0xFF 0xDEADBEEF) ∧
  decode 0x0700180000000000 = .command (.rdvendor 0 3 0) ∧
  decode 0x0C00200500000000 = .command (.rdbar 0 4 0 5) ∧
  decode 0x0D00000000000000 = .command .scanall ∧
  decode 0x0F00000100000000 = .command (.regrd 1) ∧
  decode 0x8201000000000000 = .command (.scanbus 0) ∧
  decode 0x7FFFFFFFFFFFFFFF = .illegal 0x7F

/-! ## The engine and its commands -/

/-- R32 (the spec's decision D2): an Idle engine accepts the host's next command, and "accepting makes it `Busy`";
a step performs the operation the word decodes to, in the Busy state with that command taken off the host's list
(log 1) and no activation yet (R31). One command being one step is the model's choice (log 2). -/
def Obligations.StepRunsTheDecodedCommand : Prop :=
  ∀ (s : State) (w : Word64) (rest : List Word64) (i : Instr),
    s.run = .idle → s.commands = w :: rest → decode w = .command i → i.wellFormed = true →
    step s = exec i { s with run := .busy, cursor := [], commands := rest }

/-- R31, R32: a step of a Busy engine runs the operation that the innermost activation's rule issues, with that
activation at its next place. -/
def Obligations.BusyStepRunsTheIssuedOperation : Prop :=
  ∀ (s : State) (a a' : Activation) (rest : List Activation) (i : Instr),
    s.run = .busy → s.cursor = a :: rest → nextAction a s.ret = .issue i a' →
    step s = exec i { s with cursor := a' :: rest, ret := none }

/-- R91, R92, R193 (the spec's decisions D6, D27): a word with an illegal opcode or an internal code, whatever
its other fields, is answered `BadCommand`, and nothing else changes; the engine is Idle again, without a cursor
(an Idle engine has none: R31). -/
def Obligations.StepTurnsAwayIllegalAndInternalWords : Prop :=
  ∀ (s : State) (w : Word64) (rest : List Word64),
    s.run = .idle → s.commands = w :: rest →
    (opField w = 0x00 ∨ 0x10 ≤ (opField w).toNat) →
    step s = .next { s with
      cursor := []
      commands := rest
      responses := s.responses ++ [⟨.badCommand, Config.failPayload s.draws⟩]
      draws := s.draws + 1 }

/-- R92, R201 (the spec's decisions D25, D27): every internal operation, with any arguments, that no activation
issued (which is what the host's command is: log 3) is answered `BadCommand`, with the engine Idle, and nothing
else changes. -/
def Obligations.InternalOperationsAreClosedToTheHost : Prop :=
  ∀ (s : State) (i : Instr), s.cursor = [] → i.isHost = false →
    exec i s = .next { s with
      run := .idle
      responses := s.responses ++ [⟨.badCommand, Config.failPayload s.draws⟩]
      draws := s.draws + 1 }

/-- R220: the block "issues no port transaction on reset and none until it is given a command". That the step
leaves everything as it is is the model's choice (log 1). -/
def Obligations.IdleEngineWaitsForACommand : Prop :=
  ∀ s : State, s.run = .idle → s.commands = [] → step s = .next s

/-- R32: "A host command is accepted only when `Idle`": a Busy engine takes no command off the host's list. -/
def Obligations.BusyEngineAcceptsNoCommand : Prop :=
  ∀ s t : State, s.run = .busy → step s = .next t → t.commands = s.commands

/-- R32, R82, R200 (the spec's decision D2): every command but SCANALL is performed in one step, with one
response, and leaves the engine Idle. -/
def Obligations.OneResponsePerCommand : Prop :=
  ∀ (s t : State) (w : Word64) (rest : List Word64),
    s.run = .idle → s.commands = w :: rest → opField w ≠ 0x0D → step s = .next t →
    t.run = .idle ∧ t.commands = rest ∧ ∃ r, t.responses = s.responses ++ [r]

/-- R10, R32, R82, R84, R190 (the spec's decisions D2, D5 to D9): what a return becomes. With no activation (the
host's command: log 3): a response, values as they are, a `ClassCode` packed, a failing kind with `FAIL_PAYLOAD`
(a free value, log 4), and the engine Idle. With an activation: the return latch (log 10), for its rule. The codes
of the kinds are 0 to 3. -/
def Obligations.ReturnsGoToTheHostOrTheCallingRule : Prop :=
  (∀ (s : State) (v : Word64), s.cursor = [] →
    s.deliver (.value v) = { s with run := .idle, responses := s.responses ++ [⟨.success, v⟩] }) ∧
  (∀ (s : State) (c : ClassCode), s.cursor = [] →
    s.deliver (.classCode c) = { s with run := .idle, responses := s.responses ++
      [⟨.success, (c.base ++ c.sub ++ c.interface ++ 0#8).setWidth 64⟩] }) ∧
  (∀ (s : State) (f : Failure), s.cursor = [] →
    s.deliver (.failed f) = { s with
      run := .idle
      responses := s.responses ++ [⟨f.kind, Config.failPayload s.draws⟩], draws := s.draws + 1 }) ∧
  (∀ (s : State) (r : Returned), s.cursor ≠ [] → s.deliver r = { s with ret := some r }) ∧
  Kind.code .success = 0 ∧ Failure.full.kind.code = 1 ∧ Failure.indexOutOfRange.kind.code = 2 ∧
  Failure.badCommand.kind.code = 3

/-- R220: the values the spec gives for power-on. (`CFG_ADDR` and `REG_ENTRY` are unspecified there; the
model's values are log 7 and log 8, and nothing here rests on them.) That no command is listed at reset and that
a step then leaves everything as it is, the last clause, is the model's choice (log 1); the spec says only that no
port transaction is issued. -/
def Obligations.ResetLeavesAnEmptyRegistryAndAnIdleEngine : Prop :=
  State.reset.regCount = 0 ∧ State.reset.run = .idle ∧ State.reset.cursor = [] ∧
  State.reset.trace = [] ∧ step State.reset = .next State.reset

/-! ## Address Codec -/

/-- R110: ENCODE (opcode 0x01) returns
`0x80000000 | (bus << 16) | (device << 11) | (function << 8) | (reg_offset & 0xFC)`, zero-extended, and does
nothing else. -/
def Obligations.EncodeReturnsTheAddressWord : Prop :=
  ∀ (s : State) (bus : BusNo) (dev : DevNo) (fn : FnNo) (offset : Byte),
    (Instr.encodeAddr bus dev fn offset).opcode = 0x01 ∧
    exec (.encodeAddr bus dev fn offset) s = .next (s.deliver (.value
      ((0x80000000#32 ||| (bus.setWidth 32 <<< 16) ||| (dev.setWidth 32 <<< 11) |||
        (fn.setWidth 32 <<< 8) ||| ((offset &&& 0xFC#8).setWidth 32)).setWidth 64)))

/-- R111 (derived there), R67: the words the codec produces are exactly those that select a configuration
word; their fields are the operands, the low 2 bits of the offset dropped; and the index of the word is made of
bus, device, function and word index in that order. -/
def Obligations.AddressWordsAreTheSelectingWords : Prop :=
  (∀ (bus : BusNo) (dev : DevNo) (fn : FnNo) (offset : Byte),
    selects (encodeAddress bus dev fn offset) = true ∧
    (encodeAddress bus dev fn offset).extractLsb' 16 8 = bus ∧
    (encodeAddress bus dev fn offset).extractLsb' 11 5 = dev ∧
    (encodeAddress bus dev fn offset).extractLsb' 8 3 = fn ∧
    (encodeAddress bus dev fn offset).extractLsb' 2 6 = offset.extractLsb' 2 6 ∧
    wordIndex (encodeAddress bus dev fn offset) =
      bus.toNat * 16384 + dev.toNat * 512 + fn.toNat * 64 + offset.toNat / 4) ∧
  (∀ a : Word, selects a = true →
    encodeAddress (a.extractLsb' 16 8) (a.extractLsb' 11 5) (a.extractLsb' 8 3) (a.extractLsb' 0 8) = a)

/-- R51: offsets `4k` to `4k + 3` select the same word, for CFGRD, CFGWR and ENCODE alike; none is a fault. -/
def Obligations.LowOffsetBitsAreDropped : Prop :=
  ∀ (s : State) (bus : BusNo) (dev : DevNo) (fn : FnNo) (o o' : Byte) (v : Word),
    o.toNat / 4 = o'.toNat / 4 →
    (∃ t, exec (.encodeAddr bus dev fn o) s = .next t) ∧ (∃ t, exec (.cfgrd bus dev fn o) s = .next t) ∧
    (∃ t, exec (.cfgwr bus dev fn o v) s = .next t) ∧
    exec (.encodeAddr bus dev fn o) s = exec (.encodeAddr bus dev fn o') s ∧
    exec (.cfgrd bus dev fn o) s = exec (.cfgrd bus dev fn o') s ∧
    exec (.cfgwr bus dev fn o v) s = exec (.cfgwr bus dev fn o' v) s

/-! ## Config-Space Port -/

/-- R120, R53: WRADDR (opcode 0x02) sets the latch to all 32 bits as given; the event is `WA`. -/
def Obligations.WraddrSetsTheLatch : Prop :=
  ∀ (s : State) (a : Word), s.external = [] →
    (Instr.wraddr a).opcode = 0x02 ∧
    exec (.wraddr a) s = .next (({ s with cfgAddr := a, trace := s.trace ++ [.wa a] } : State).deliver (.value 0))

/-- R121, R54: RDDATA (opcode 0x03) returns the word the latch selects now: the fixed word where one is listed
(R58), and else a free value (log 5); the event is `RD`. -/
def Obligations.RddataReadsWhatTheLatchSelects : Prop :=
  ∀ s : State, s.external = [] →
    Instr.rddata.opcode = 0x03 ∧
    exec .rddata s = .next (({ s with
      trace := s.trace ++ [.rd (s.answerAt s.draws s.cfgAddr)]
      draws := s.draws + s.answerDraws s.cfgAddr } : State).deliver
        (.value ((s.answerAt s.draws s.cfgAddr).setWidth 64)))

/-- R122, R55: WRDATA presents the value to the word the latch selects now; the event is `WD`. After it
nothing is known of that word, and every other word reads as before (the model's rendering of U10, log 6). -/
def Obligations.WrdataPresentsToWhatTheLatchSelects : Prop :=
  ∀ (s : State) (v : Word), s.external = [] →
    ∃ t : State, exec (.wrdata v) s = .next (t.deliver (.value 0)) ∧
      t = { s with cfg := t.cfg, trace := s.trace ++ [.wd v] } ∧
      (selects s.cfgAddr = true → Memory.read t.cfg (wordIndex s.cfgAddr) = none) ∧
      ∀ k, ¬ (selects s.cfgAddr = true ∧ k = wordIndex s.cfgAddr) → Memory.read t.cfg k = Memory.read s.cfg k

/-- R66 (the spec's decision D13), U7: while the latch holds a value the codec cannot produce, RDDATA returns
a draw (a free value, log 5, log 19) and WRDATA has no effect but its event. -/
def Obligations.UnselectingLatchReadsADrawAndWritesNothing : Prop :=
  ∀ (s : State) (v : Word), s.external = [] → selects s.cfgAddr = false →
    exec .rddata s = .next (({ s with
      trace := s.trace ++ [.rd (Config.cfgAnswer s.draws s.cfgAddr)], draws := s.draws + 1 } : State).deliver
        (.value ((Config.cfgAnswer s.draws s.cfgAddr).setWidth 64))) ∧
    exec (.wrdata v) s = .next (({ s with trace := s.trace ++ [.wd v] } : State).deliver (.value 0))

/-- R123: CFGRD (opcode 0x05) makes exactly `WA(a), RD(v)` and returns the whole word, zero-extended. -/
def Obligations.CfgrdReadsTheWholeWord : Prop :=
  ∀ (s : State) (bus : BusNo) (dev : DevNo) (fn : FnNo) (offset : Byte), s.external = [] →
    (Instr.cfgrd bus dev fn offset).opcode = 0x05 ∧
    exec (.cfgrd bus dev fn offset) s = .next (({ s with
      cfgAddr := encodeAddress bus dev fn offset
      trace := s.trace ++ [.wa (encodeAddress bus dev fn offset),
        .rd (s.answerAt s.draws (encodeAddress bus dev fn offset))]
      draws := s.draws + s.answerDraws (encodeAddress bus dev fn offset) } : State).deliver
        (.value ((s.answerAt s.draws (encodeAddress bus dev fn offset)).setWidth 64)))

/-- R124: CFGWR makes exactly `WA(a), WD(value)`. After it nothing is known of the word written, and every
other word reads as before (the model's rendering of U10, log 6). -/
def Obligations.CfgwrWritesOneWord : Prop :=
  ∀ (s : State) (bus : BusNo) (dev : DevNo) (fn : FnNo) (offset : Byte) (v : Word), s.external = [] →
    ∃ t : State, exec (.cfgwr bus dev fn offset v) s = .next (t.deliver (.value 0)) ∧
      t = { s with
        cfgAddr := encodeAddress bus dev fn offset
        cfg := t.cfg
        trace := s.trace ++ [.wa (encodeAddress bus dev fn offset), .wd v] } ∧
      Memory.read t.cfg (wordIndex (encodeAddress bus dev fn offset)) = none ∧
      ∀ k, k ≠ wordIndex (encodeAddress bus dev fn offset) → Memory.read t.cfg k = Memory.read s.cfg k

/-- R125 to R129: each field reader makes exactly one round trip at its offset and returns its bits of the
word. The offsets and the secondary bus's place are the source's; the other bit positions are the conventional
ones (G2, G3, D14; log 13), and RDBUSNUM's whole word is the spec's decision D18. -/
def Obligations.FieldReadersReturnTheirBits : Prop :=
  ∀ (s : State) (bus : BusNo) (dev : DevNo) (fn : FnNo), s.external = [] →
    exec (.rdvendor bus dev fn) s = .next ((s.afterRead (encodeAddress bus dev fn 0x00)).deliver (.value
      (((s.answerAt s.draws (encodeAddress bus dev fn 0x00)).extractLsb' 0 16).setWidth 64))) ∧
    exec (.rddevid bus dev fn) s = .next ((s.afterRead (encodeAddress bus dev fn 0x00)).deliver (.value
      (((s.answerAt s.draws (encodeAddress bus dev fn 0x00)).extractLsb' 16 16).setWidth 64))) ∧
    exec (.rdhdr bus dev fn) s = .next ((s.afterRead (encodeAddress bus dev fn 0x0C)).deliver (.value
      (((s.answerAt s.draws (encodeAddress bus dev fn 0x0C)).extractLsb' 16 8).setWidth 64))) ∧
    exec (.rdclass bus dev fn) s = .next ((s.afterRead (encodeAddress bus dev fn 0x08)).deliver (.classCode
      ⟨(s.answerAt s.draws (encodeAddress bus dev fn 0x08)).extractLsb' 24 8,
       (s.answerAt s.draws (encodeAddress bus dev fn 0x08)).extractLsb' 16 8,
       (s.answerAt s.draws (encodeAddress bus dev fn 0x08)).extractLsb' 8 8⟩)) ∧
    exec (.rdbusnum bus dev fn) s = .next ((s.afterRead (encodeAddress bus dev fn 0x18)).deliver (.value
      ((s.answerAt s.draws (encodeAddress bus dev fn 0x18)).setWidth 64)))

/-- R59, R223, R227: where an external agent writes `x` to the address port between the `WA` and the data
event, the data event acts on `x`: CFGRD returns the word at `x`, and CFGWR writes the word at `x` (the spec's
decision D22). The list of moves before each port event is the model's choice (log 12); so is what CFGWR's write
leaves known (log 6: nothing of the word at `x`, all of the others), and that it does nothing where `x` selects no
word is DEDUCED (log 19). -/
def Obligations.InterleavedAddressWriteMisdirectsTheAccess : Prop :=
  ∀ (s : State) (bus : BusNo) (dev : DevNo) (fn : FnNo) (offset : Byte) (v x : Word)
    (later : List (List ExternalMove)),
    s.external = [] :: [.writeAddr x] :: later →
    exec (.cfgrd bus dev fn offset) s = .next (({ s with
      cfgAddr := x
      external := later
      trace := s.trace ++ [.wa (encodeAddress bus dev fn offset), .rd (s.answerAt s.draws x)]
      draws := s.draws + s.answerDraws x } : State).deliver (.value ((s.answerAt s.draws x).setWidth 64))) ∧
    exec (.cfgwr bus dev fn offset v) s = .next (({ s with
      cfgAddr := x
      external := later
      cfg := s.cfgAfterWrite x
      trace := s.trace ++ [.wa (encodeAddress bus dev fn offset), .wd v] } : State).deliver (.value 0))

/-- R225 case (a), R35: `WRADDR a; CFGRD b:d.f, o; RDDATA`, issued by the host one after the other, makes the
RDDATA read the word CFGRD selected, here one the platform holds fixed, so that both answers are that word. Three
commands being three steps is the model's choice (log 2). -/
def Obligations.RawReadAfterCfgrdReadsCfgrdsWord : Prop :=
  ∀ (s : State) (w₁ w₂ w₃ : Word64) (rest : List Word64) (a w : Word) (bus : BusNo) (dev : DevNo) (fn : FnNo)
    (offset : Byte),
    s.run = .idle → s.external = [] → s.commands = w₁ :: w₂ :: w₃ :: rest →
    decode w₁ = .command (.wraddr a) → decode w₂ = .command (.cfgrd bus dev fn offset) →
    decode w₃ = .command .rddata → s.fixedWord (encodeAddress bus dev fn offset) = some w →
    Host.Core.run Sys2Proof.core 3 s = .next { s with
      cursor := []
      commands := rest
      cfgAddr := encodeAddress bus dev fn offset
      trace := s.trace ++ [.wa a, .wa (encodeAddress bus dev fn offset), .rd w, .rd w]
      responses := s.responses ++
        [⟨.success, 0⟩, ⟨.success, w.setWidth 64⟩, ⟨.success, w.setWidth 64⟩] }

/-- R35: the latch always holds the value of the last `WA` the block issued, where no external agent acts. -/
def Obligations.LatchHoldsTheLastAddressWritten : Prop :=
  ∀ s t : State, s.latchIsLast → step s = .next t → t.latchIsLast

/-- R224: every step keeps `PortDiscipline`, but for the raw commands WRADDR, RDDATA and WRDATA. -/
def Obligations.EveryStepButRawCommandsKeepsPortDiscipline : Prop :=
  ∀ s t : State, portDiscipline s.trace = true →
    (s.run = .idle → ∀ w rest, s.commands = w :: rest →
      opField w ≠ 0x02 ∧ opField w ≠ 0x03 ∧ opField w ≠ 0x04) →
    step s = .next t → portDiscipline t.trace = true

/-- R61: transactions are issued in one total order: a step only appends to the trace. R130, R182(b): an
operation makes at most two round trips, so at most four events, one command being one step (the model's choice,
log 2). -/
def Obligations.TraceOnlyGrows : Prop :=
  ∀ s t : State, step s = .next t → ∃ e, t.trace = s.trace ++ e ∧ e.length ≤ 4

/-- R124, R180: "the scanner and the BAR resolver only read": no event that a step of a scan or an RDBAR appends
to the trace is a WD, and, where no external agent acts, the words known to be fixed stay as they are (the table
is the model's, log 6). -/
def Obligations.ScannerAndBarResolverOnlyRead : Prop :=
  ∀ s t : State, step s = .next t →
    (s.run = .busy ∨ (s.run = .idle ∧ ∃ w rest, s.commands = w :: rest ∧ opField w = 0x0C)) →
    (∃ e, t.trace = s.trace ++ e ∧ ∀ v, Event.wd v ∉ e) ∧ (s.external = [] → t.cfg = s.cfg)

/-! ## BAR Resolver -/

/-- R180, R87, R88: RDBAR's (opcode 0x0C) four steps, where no external agent acts: an index above 5 is refused with no
port activity; a BAR with bit 2 clear is returned raw; one with bit 2 set at index 5 is refused after one
round trip; any other is the lower half of a pair with the next BAR. -/
def Obligations.RdbarFollowsItsFourSteps : Prop :=
  ∀ (s : State) (bus : BusNo) (dev : DevNo) (fn : FnNo) (index : Byte), s.external = [] →
    let a := encodeAddress bus dev fn (0x10 + 4 * index)
    let lo := s.answerAt s.draws a
    let a' := encodeAddress bus dev fn (0x10 + 4 * (index + 1))
    let hi := s.answerAt (s.draws + s.answerDraws a) a'
    (Instr.rdbar bus dev fn index).opcode = 0x0C ∧
    exec (.rdbar bus dev fn index) s = .next (
      if 6 ≤ index.toNat then s.deliver (.failed .indexOutOfRange)
      else if lo.getLsbD 2 = false then (s.afterRead a).deliver (.value (lo.setWidth 64))
      else if index.toNat = 5 then (s.afterRead a).deliver (.failed .indexOutOfRange)
      else ({ s with
        cfgAddr := a'
        trace := s.trace ++ [.wa a, .rd lo, .wa a', .rd hi]
        draws := s.draws + s.answerDraws a + s.answerDraws a' } : State).deliver (.value (hi ++ lo)))

/-! ## Device Registry and predicates -/

/-- R140: REGRESET (internal code 0x80), issued by the sequencer, sets the count to 0 and nothing else; the
entries keep their contents. It is called from one place, the first step of SCANALL. Issued by the host
(no activation: log 3) it is answered `BadCommand`, which is R92's and R193's, the spec's decisions D6 and D27. -/
def Obligations.RegresetClearsOnlyTheCount : Prop :=
  ∀ s : State,
    Instr.regreset.opcode = 0x80 ∧
    (s.cursor ≠ [] → exec .regreset s = .next { s with regCount := 0, ret := some (.value 0) }) ∧
    (s.cursor = [] → exec .regreset s = .next (s.deliver (.failed .badCommand))) ∧
    ∀ (a a' : Activation) (ret : Option Returned), nextAction a ret = .issue .regreset a' →
      ∃ f, a = .scanAll .start f

/-- R141: REGADD (internal code 0x81), issued by the sequencer, appends at the count, leaving every other entry;
at 32 it answers `Full` and leaves the registry unchanged. (A count above 32 is in no reachable state: R23.)
It is called from one place, SCANFN. Issued by the host (no activation: log 3) it is answered `BadCommand`, which is
R92's and R193's, the spec's decisions D6 and D27. -/
def Obligations.RegaddAppendsOrIsFull : Prop :=
  ∀ (s : State) (d : Device),
    (Instr.regadd d).opcode = 0x81 ∧
    (s.cursor ≠ [] → s.regCount = 32 → exec (.regadd d) s = .next { s with ret := some (.failed .full) }) ∧
    (s.cursor ≠ [] → s.regCount.toNat < 32 → ∃ t : State, exec (.regadd d) s = .next t ∧
      t = { s with regCount := t.regCount, regEntry := t.regEntry, ret := some (.value 0) } ∧
      t.regCount.toNat = s.regCount.toNat + 1 ∧ t.entries = s.entries ++ [d] ∧
      ∀ i : Nat, i ≠ s.regCount.toNat → t.regEntry[i]? = s.regEntry[i]?) ∧
    (s.cursor = [] → exec (.regadd d) s = .next (s.deliver (.failed .badCommand))) ∧
    ∀ (a a' : Activation) (ret : Option Returned), nextAction a ret = .issue (.regadd d) a' →
      ∃ bus dev fn h c, a = .scanFn .header bus dev fn h c

/-- R142 (the spec's decision D10): REGCNT returns the count, zero-extended, and changes nothing. -/
def Obligations.RegcntReturnsTheCount : Prop :=
  ∀ s : State, exec .regcnt s = .next (s.deliver (.value (s.regCount.setWidth 64)))

/-- R143, R83 (the spec's decisions D9, D10): REGRD returns a valid entry packed, and changes nothing. -/
def Obligations.RegrdReturnsThePackedEntry : Prop :=
  ∀ (s : State) (index : Byte) (d : Device), s.regCount.toNat ≤ 32 → s.entries[index.toNat]? = some d →
    exec (.regrd index) s = .next (s.deliver (.value
      (0#8 ++ d.bus ++ d.device ++ d.function ++ d.headerType ++ d.classCode.base ++ d.classCode.sub ++
        d.classCode.interface ++ 0#8)))

/-- R143 (the spec's decision D10): an index at or beyond the count is refused, and no entry is returned. -/
def Obligations.RegrdRefusesAnIndexBeyondTheCount : Prop :=
  ∀ (s : State) (index : Byte), s.regCount.toNat ≤ index.toNat →
    exec (.regrd index) s = .next (s.deliver (.failed .indexOutOfRange))

/-- R81, R83 (the spec's decisions D3, D9): a read-out entry has its function where a command word has it. -/
def Obligations.ReadOutEntryNamesItsFunctionAsACommandDoes : Prop :=
  ∀ (d : Device) (op arg : Byte) (data : Word),
    let w := (packDevice d &&& 0x00FFFF0000000000) ||| (op.setWidth 64 <<< 56) ||| (arg.setWidth 64 <<< 32) |||
      data.setWidth 64
    w = commandWord op d.bus d.device d.function arg data ∧ argField (packDevice d) = d.headerType

/-- R144, R145, R146: the three predicates (internal codes 0x85, 0x86, 0x87) compare the fields supplied and
ignore the rest; no state, no trace. They run where an activation's rule issues
them (log 3). -/
def Obligations.ClassCodePredicatesCompareTheFieldsSupplied : Prop :=
  ∀ (s : State) (c : ClassCode) (b u i : Byte), s.cursor ≠ [] →
    (Instr.ccmatch1 c b).opcode = 0x85 ∧ (Instr.ccmatch2 c b u).opcode = 0x86 ∧
    (Instr.ccmatch3 c b u i).opcode = 0x87 ∧
    exec (.ccmatch1 c b) s = .next { s with ret := some (.truth (decide (c.base = b))) } ∧
    exec (.ccmatch2 c b u) s = .next { s with ret := some (.truth (decide (c.base = b ∧ c.sub = u))) } ∧
    exec (.ccmatch3 c b u i) s =
      .next { s with ret := some (.truth (decide (c.base = b ∧ c.sub = u ∧ c.interface = i))) }

/-- R147: ISSINGLE (internal code 0x88) is true exactly when bit 7 of the header type is 0, that is when the
type is below 0x80. It runs where an activation's rule issues it (log 3). -/
def Obligations.IssingleTestsBitSevenAlone : Prop :=
  ∀ (s : State) (h : Byte), s.cursor ≠ [] →
    (Instr.issingle h).opcode = 0x88 ∧
    exec (.issingle h) s = .next { s with ret := some (.truth (decide (h.toNat < 0x80))) }

/-- R25, R148(d): no step of an Idle engine, whatever the command, changes the registry. -/
def Obligations.RegistryChangesOnlyWhileAScanRuns : Prop :=
  ∀ s t : State, s.run = .idle → step s = .next t →
    t.regCount = s.regCount ∧ t.regEntry = s.regEntry

/-- R148, R141: entries are only appended, except that the REGRESET at the start of SCANALL empties the
registry. -/
def Obligations.RegistryIsAppendOnlyButForItsReset : Prop :=
  ∀ s t : State, s.Inv → step s = .next t →
    s.entries <+: t.entries ∨ ((∃ f, s.cursor = [.scanAll .start f]) ∧ t.regCount = 0)

/-! ## Bus Scanner -/

/-- R160, R32: SCANALL, the host's command (no activation on the cursor: log 3), leaves the engine Busy with
SCANALL's activation; its first act is REGRESET, before any port transaction. -/
def Obligations.ScanallStartsByEmptyingTheRegistry : Prop :=
  ∀ s : State, s.cursor = [] → ∃ t : State, exec .scanall s = .next t ∧
    t = { s with run := .busy, cursor := [.scanAll .start 1], ret := none } ∧
    step t = .next { t with regCount := 0, cursor := [.scanAll .reset 1], ret := some (.value 0) }

/-- R31, R161 to R163: a scanner procedure, issued by an activation's rule (log 3), becomes the innermost
activation. -/
def Obligations.ScannerProceduresBecomeInnermost : Prop :=
  ∀ (s : State) (bus : BusNo) (dev : DevNo) (fn : FnNo), s.cursor ≠ [] →
    exec (.scanbus bus) s = .next { s with cursor := .scanBus .start bus 0 :: s.cursor, ret := none } ∧
    exec (.scandev bus dev) s = .next { s with cursor := .scanDev .start bus dev 1 :: s.cursor, ret := none } ∧
    exec (.scanfn bus dev fn) s =
      .next { s with cursor := .scanFn .start bus dev fn 0 .zero :: s.cursor, ret := none }

/-- R161, R168: SCANBUS, invoked by the sequencer, runs to its return, and what it does is what the recursion
of R161 to R163 does when given the same answers: its events, the entries it adds, the kind it returns. -/
def Obligations.ScanbusRunsAsTheRecursion : Prop :=
  ∀ (s : State) (bus : BusNo), s.run = .busy → s.cursor ≠ [] → s.regCount.toNat ≤ 32 →
    ∃ (u t : State) (k : Nat) (answers : Nat → Word),
      exec (.scanbus bus) s = .next u ∧ Host.Core.run Sys2Proof.core k u = .next t ∧
      let r := recBus answers Config.stackDepth bus ⟨0, [], s.entries⟩
      t.run = .busy ∧ t.cursor = s.cursor ∧ t.commands = s.commands ∧ t.responses = s.responses ∧
      t.trace = s.trace ++ r.2.events ∧ t.entries = r.2.devices ∧ t.regCount.toNat = r.2.devices.length ∧
      t.ret = some (match r.1 with
        | none => .value 0
        | some f => .failed f)

/-- R162, R168: the same of SCANDEV. -/
def Obligations.ScandevRunsAsTheRecursion : Prop :=
  ∀ (s : State) (bus : BusNo) (dev : DevNo), s.run = .busy → s.cursor ≠ [] → s.regCount.toNat ≤ 32 →
    ∃ (u t : State) (k : Nat) (answers : Nat → Word),
      exec (.scandev bus dev) s = .next u ∧ Host.Core.run Sys2Proof.core k u = .next t ∧
      let r := recDev answers (recBus answers Config.stackDepth) bus dev ⟨0, [], s.entries⟩
      t.run = .busy ∧ t.cursor = s.cursor ∧ t.commands = s.commands ∧ t.responses = s.responses ∧
      t.trace = s.trace ++ r.2.events ∧ t.entries = r.2.devices ∧ t.regCount.toNat = r.2.devices.length ∧
      t.ret = some (match r.1 with
        | none => .value 0
        | some f => .failed f)

/-- R163, R168: the same of SCANFN. -/
def Obligations.ScanfnRunsAsTheRecursion : Prop :=
  ∀ (s : State) (bus : BusNo) (dev : DevNo) (fn : FnNo),
    s.run = .busy → s.cursor ≠ [] → s.regCount.toNat ≤ 32 →
    ∃ (u t : State) (k : Nat) (answers : Nat → Word),
      exec (.scanfn bus dev fn) s = .next u ∧ Host.Core.run Sys2Proof.core k u = .next t ∧
      let r := recFn answers (recBus answers Config.stackDepth) bus dev fn ⟨0, [], s.entries⟩
      t.run = .busy ∧ t.cursor = s.cursor ∧ t.commands = s.commands ∧ t.responses = s.responses ∧
      t.trace = s.trace ++ r.2.events ∧ t.entries = r.2.devices ∧ t.regCount.toNat = r.2.devices.length ∧
      t.ret = some (match r.1 with
        | none => .value 0
        | some f => .failed f)

/-- R160 to R166, R168: a SCANALL command, from any Idle state, runs to its response within 2048 steps of the
model, and its port transactions, the registry and the response are those of the recursion of R160 to R163
given the same answers. The spec has no steps; the bound counts the model's (log 2). -/
def Obligations.ScanallRunsAsTheRecursion : Prop :=
  ∀ (s : State) (w : Word64) (rest : List Word64),
    s.run = .idle → s.commands = w :: rest → opField w = 0x0D →
    ∃ (k : Nat) (t : State) (answers : Nat → Word) (v : Word64),
      k ≤ 2048 ∧ Host.Core.run Sys2Proof.core k s = .next t ∧
      let r := recAll answers
      t.run = .idle ∧ t.cursor = [] ∧ t.commands = rest ∧
      t.trace = s.trace ++ r.2.events ∧ t.entries = r.2.devices ∧ t.regCount.toNat = r.2.devices.length ∧
      t.responses = s.responses ++ [match r.1 with
        | none => ⟨.success, 0⟩
        | some f => ⟨f.kind, v⟩]

/-- R167, R169 (derived there): every SCANALL ends, with at most 3238 events, whatever the platform answers. That
the platform answers every transaction and a Busy engine takes its next step is the fairness assumption of R235
(D31; log 20). -/
def Obligations.EveryScanEndsWithinItsBound : Prop :=
  ∀ (s : State) (w : Word64) (rest : List Word64),
    s.run = .idle → s.commands = w :: rest → opField w = 0x0D →
    ∃ (k : Nat) (t : State), Host.Core.run Sys2Proof.core k s = .next t ∧ t.run = .idle ∧ t.commands = rest ∧
      t.trace.length ≤ s.trace.length + 3238

/-- R170(b): two scans of an unchanged model, from whatever states, have identical traces, ordered device lists
and kinds: `StaticCfg` (R58) is the premise that the answers of both are those of one function `read`. -/
def Obligations.ScansOfAnUnchangedModelAgree : Prop :=
  ∀ (read : Word → Word) (s₁ s₂ t₁ t₂ : State) (w₁ w₂ : Word64) (rest₁ rest₂ : List Word64) (k₁ k₂ : Nat)
    (e₁ e₂ : List Event) (r₁ r₂ : Response),
    s₁.run = .idle → s₁.commands = w₁ :: rest₁ → opField w₁ = 0x0D →
    Host.Core.run Sys2Proof.core k₁ s₁ = .next t₁ → t₁.run = .idle → t₁.commands = rest₁ →
    t₁.trace = s₁.trace ++ e₁ → t₁.responses = s₁.responses ++ [r₁] → consistentWith read e₁ →
    s₂.run = .idle → s₂.commands = w₂ :: rest₂ → opField w₂ = 0x0D →
    Host.Core.run Sys2Proof.core k₂ s₂ = .next t₂ → t₂.run = .idle → t₂.commands = rest₂ →
    t₂.trace = s₂.trace ++ e₂ → t₂.responses = s₂.responses ++ [r₂] → consistentWith read e₂ →
    e₁ = e₂ ∧ t₁.entries = t₂.entries ∧ r₁.kind = r₂.kind

/-- R56, R125, R161: only the 16-bit vendor id decides presence: 0xFFFF, and the whole device is skipped, the
next one being asked for, or after device 31 the bus being done; any other, and the device is scanned. That
`vendor_id` is bits 15:0 of the word is the conventional place, PRESUMED (G2, D14; log 13). -/
def Obligations.AbsentDevicesAreSkipped : Prop :=
  ∀ (bus : BusNo) (d : Nat) (w : Word), d ≤ 31 →
    nextAction (.scanBus .vendor bus d) (some (.value ((vendorId w).setWidth 64))) =
      if w.extractLsb' 0 16 ≠ 0xFFFF then .issue (.scandev bus (BitVec.ofNat 5 d)) (.scanBus .device bus d)
      else if d = 31 then .finish (.value 0)
      else .issue (.rdvendor bus (BitVec.ofNat 5 (d + 1)) 0) (.scanBus .vendor bus (d + 1))

/-- R162 corner case (b): "for a device whose function-0 header type has bit 7 clear", SCANDEV ends with
Success and performs no vendor-id reads for functions 1 to 7. The spec has no steps; the two counted are the
model's (log 2). -/
def Obligations.SingleFunctionDeviceIsNotProbedFurther : Prop :=
  ∀ (s : State) (bus : BusNo) (dev : DevNo) (f : Nat) (caller : Activation) (rest : List Activation) (h : Byte),
    s.run = .busy → s.cursor = .scanDev .header bus dev f :: caller :: rest →
    s.ret = some (.value (h.setWidth 64)) → h.getLsbD 7 = false →
    Host.Core.run Sys2Proof.core 2 s = .next { s with cursor := caller :: rest, ret := some (.value 0) }

/-- R163, R165: after REGADD's success, a function of class 0x06/0x04, whatever its interface and header type,
has its bus-numbers word read and SCANBUS called with bits 15:8 of it; any other ends with Success. The spec has
no steps; the three and two counted are the model's (log 2). -/
def Obligations.BridgeIsDescendedIntoAfterItsEntry : Prop :=
  ∀ (s : State) (bus : BusNo) (dev : DevNo) (fn : FnNo) (h : Byte) (c : ClassCode) (caller : Activation)
    (rest : List Activation) (v : Word64),
    s.run = .busy → s.external = [] → s.cursor = .scanFn .add bus dev fn h c :: caller :: rest →
    s.ret = some (.value v) →
    if c.base = 0x06 ∧ c.sub = 0x04 then
      Host.Core.run Sys2Proof.core 3 s = .next { s.afterRead (encodeAddress bus dev fn 0x18) with
        cursor := .scanBus .start ((s.answerAt s.draws (encodeAddress bus dev fn 0x18)).extractLsb' 8 8) 0 ::
          .scanFn .below bus dev fn h c :: caller :: rest
        ret := none }
    else Host.Core.run Sys2Proof.core 2 s = .next { s with cursor := caller :: rest, ret := some (.value 0) }

/-- R90, R160 corner case (c), R231: on the multi-function path SCANALL, where 0:0.f is present, calls SCANBUS
with the function index f of 1..7 as the bus number, and with no other bus: never with bus 0. -/
def Obligations.MultiFunctionRootNeverScansBusZero : Prop :=
  ∀ f : Nat, 1 ≤ f → f ≤ 7 →
    (∀ v : BitVec 16, v ≠ 0xFFFF → ∃ bus : BusNo, bus.toNat = f ∧
      nextAction (.scanAll .vendor f) (some (.value (v.setWidth 64))) =
        .issue (.scanbus bus) (.scanAll .segment f)) ∧
    ∀ (ret : Option Returned) (bus : BusNo) (a : Activation),
      (nextAction (.scanAll .vendor f) ret = .issue (.scanbus bus) a → bus.toNat = f ∧ bus ≠ 0) ∧
      nextAction (.scanAll .segment f) ret ≠ .issue (.scanbus bus) a

/-- R164, R198: a failing kind that REGADD returned travels unchanged through every enclosing activation to the
host, each of them stopping at once: one step for each, no port transaction, nothing changed but the cursor, and
then the response, with the engine Idle. The kind can only be `Full`. The spec has no steps; one for each activation
is the model's (log 2). -/
def Obligations.FailurePropagatesUnchanged : Prop :=
  ∀ (s : State) (f : Failure), s.Inv → s.run = .busy → s.ret = some (.failed f) →
    f = .full ∧
    Host.Core.run Sys2Proof.core s.cursor.length s = .next { s with
      run := .idle
      cursor := []
      ret := none
      responses := s.responses ++ [⟨f.kind, Config.failPayload s.draws⟩]
      draws := s.draws + 1 }

/-- R191, R199: `Full` reaches the host only when the registry holds 32 entries, and they stay. -/
def Obligations.FullIsAnsweredOnlyWithAFullRegistry : Prop :=
  ∀ (s t : State) (r : Response), s.Inv → step s = .next t → t.responses = s.responses ++ [r] →
    r.kind = .full → s.run = .busy ∧ t.regCount = 32 ∧ t.entries = s.entries

/-! ## The invariant -/

/-- R23, R31, R32, R148, R168: every step keeps the invariant of the block. -/
def Obligations.EveryStepKeepsTheInvariant : Prop :=
  ∀ s t : State, s.Inv → step s = .next t → t.Inv

/-- R36: the state after reset meets the invariant, the latch's and `PortDiscipline`. -/
def Obligations.ResetMeetsTheInvariants : Prop :=
  State.reset.Inv ∧ State.reset.latchIsLast ∧ portDiscipline State.reset.trace = true

/-- R195, R167: from a state that meets the invariant the engine always has a next step; nothing stops it. -/
def Obligations.EngineNeverStops : Prop :=
  ∀ s : State, s.Inv → ∃ t : State, step s = .next t

/-- R168: at most 33 activations of SCANBUS are live at once. -/
def Obligations.AtMostThirtyThreeScanbusActivations : Prop :=
  ∀ s : State, s.Inv → busDepth s.cursor ≤ Config.stackDepth
end

