-- ==== Sys2Proof/Laws/Encoding.lean ====
section
/-! SUPPORT. The fields of a command word built from its fields. -/

namespace Sys2Proof

@[simp] theorem opField_commandWord (op : Byte) (bus : BusNo) (dev : DevNo) (fn : FnNo) (arg : Byte) (data : Word) :
    opField (commandWord op bus dev fn arg data) = op := by
  apply BitVec.eq_of_getLsbD_eq
  intro i hi
  simp only [opField, commandWord, BitVec.getLsbD_extractLsb', BitVec.getLsbD_append]
  rw [if_neg (by omega), if_neg (by omega), if_neg (by omega), if_neg (by omega), if_neg (by omega)]
  simp only [hi, decide_true, Bool.true_and]
  congr 1
  omega

@[simp] theorem busField_commandWord (op : Byte) (bus : BusNo) (dev : DevNo) (fn : FnNo) (arg : Byte) (data : Word) :
    busField (commandWord op bus dev fn arg data) = bus := by
  apply BitVec.eq_of_getLsbD_eq
  intro i hi
  simp only [busField, commandWord, BitVec.getLsbD_extractLsb', BitVec.getLsbD_append]
  rw [if_neg (by omega), if_neg (by omega), if_neg (by omega), if_neg (by omega), if_pos (by omega)]
  simp only [hi, decide_true, Bool.true_and]
  congr 1
  omega

@[simp] theorem devField_commandWord (op : Byte) (bus : BusNo) (dev : DevNo) (fn : FnNo) (arg : Byte) (data : Word) :
    devField (commandWord op bus dev fn arg data) = dev := by
  apply BitVec.eq_of_getLsbD_eq
  intro i hi
  simp only [devField, commandWord, BitVec.getLsbD_extractLsb', BitVec.getLsbD_append]
  rw [if_neg (by omega), if_neg (by omega), if_neg (by omega), if_pos (by omega)]
  simp only [hi, decide_true, Bool.true_and]
  congr 1
  omega

@[simp] theorem fnField_commandWord (op : Byte) (bus : BusNo) (dev : DevNo) (fn : FnNo) (arg : Byte) (data : Word) :
    fnField (commandWord op bus dev fn arg data) = fn := by
  apply BitVec.eq_of_getLsbD_eq
  intro i hi
  simp only [fnField, commandWord, BitVec.getLsbD_extractLsb', BitVec.getLsbD_append]
  rw [if_neg (by omega), if_neg (by omega), if_pos (by omega)]
  simp only [hi, decide_true, Bool.true_and]
  congr 1
  omega

@[simp] theorem argField_commandWord (op : Byte) (bus : BusNo) (dev : DevNo) (fn : FnNo) (arg : Byte) (data : Word) :
    argField (commandWord op bus dev fn arg data) = arg := by
  apply BitVec.eq_of_getLsbD_eq
  intro i hi
  simp only [argField, commandWord, BitVec.getLsbD_extractLsb', BitVec.getLsbD_append]
  rw [if_neg (by omega), if_pos (by omega)]
  simp only [hi, decide_true, Bool.true_and]
  congr 1
  omega

@[simp] theorem dataField_commandWord (op : Byte) (bus : BusNo) (dev : DevNo) (fn : FnNo) (arg : Byte) (data : Word) :
    dataField (commandWord op bus dev fn arg data) = data := by
  apply BitVec.eq_of_getLsbD_eq
  intro i hi
  simp only [dataField, commandWord, BitVec.getLsbD_extractLsb', BitVec.getLsbD_append]
  rw [if_pos (by omega)]
  simp only [hi, decide_true, Bool.true_and]
  congr 1
  omega

end Sys2Proof
end

