-- ==== Sys2Proof/Laws/Memory.lean ====
section
/-! SUPPORT. The configuration words known to be fixed: what reading and forgetting do, and that every
operation keeps their canonical form. -/

namespace Sys2Proof.Machine

@[simp] theorem Memory.read_nil (k : Nat) : Memory.read [] k = none := rfl

/-- Forgetting a word leaves nothing known of it. -/
@[simp] theorem Memory.read_forget_same (m : ConfigSpace) (k : Nat) : Memory.read (Memory.forget m k) k = none := by
  induction m with
  | nil => rfl
  | cons e m ih =>
    obtain ⟨k', w⟩ := e
    by_cases h : k = k' <;> simp_all [Memory.forget, Memory.read]

/-- Forgetting a word leaves every other word as it was. -/
theorem Memory.read_forget_other (m : ConfigSpace) (k j : Nat) (h : j ≠ k) :
    Memory.read (Memory.forget m k) j = Memory.read m j := by
  induction m with
  | nil => rfl
  | cons e m ih =>
    obtain ⟨k', w⟩ := e
    by_cases hk : k = k'
    · have : j ≠ k' := by omega
      simp [Memory.forget, Memory.read, hk, this]
      simpa [hk] using ih
    · simp [Memory.forget, Memory.read, hk, ih]

theorem Memory.risingFrom_mono (m : ConfigSpace) (n n' : Nat) (h : n' ≤ n) (hm : Memory.risingFrom n m = true) :
    Memory.risingFrom n' m = true := by
  cases m with
  | nil => rfl
  | cons e m =>
    obtain ⟨k, w⟩ := e
    simp only [Memory.risingFrom, Bool.and_eq_true, decide_eq_true_eq] at hm ⊢
    exact ⟨⟨by omega, hm.1.2⟩, hm.2⟩

theorem Memory.risingFrom_forget (m : ConfigSpace) (n k : Nat) (hm : Memory.risingFrom n m = true) :
    Memory.risingFrom n (Memory.forget m k) = true := by
  induction m generalizing n with
  | nil => rfl
  | cons e m ih =>
    obtain ⟨k', w⟩ := e
    simp only [Memory.risingFrom, Bool.and_eq_true, decide_eq_true_eq] at hm
    obtain ⟨⟨h1, h2⟩, h3⟩ := hm
    by_cases hk : k = k'
    · simp only [Memory.forget, hk, ↓reduceIte]
      exact Memory.risingFrom_mono _ _ _ (by omega) (hk ▸ ih _ h3)
    · simp [Memory.forget, hk, Memory.risingFrom, h1, h2, ih _ h3]

/-- Forgetting a word keeps the canonical form. -/
theorem Memory.wf_forget (m : ConfigSpace) (k : Nat) (h : Memory.wf m = true) :
    Memory.wf (Memory.forget m k) = true :=
  Memory.risingFrom_forget m 0 k h

/-- A data-port write keeps the canonical form. -/
theorem State.wf_cfgAfterWrite (s : State) (a : Word) (h : Memory.wf s.cfg = true) :
    Memory.wf (s.cfgAfterWrite a) = true := by
  unfold State.cfgAfterWrite
  split
  · exact Memory.wf_forget _ _ h
  · exact h

theorem State.wf_externalMove (s : State) (m : ExternalMove) (h : Memory.wf s.cfg = true) :
    Memory.wf (s.externalMove m).cfg = true := by
  cases m with
  | writeAddr v => exact h
  | readData => exact h
  | writeData v => exact s.wf_cfgAfterWrite _ h

/-- An external agent's moves keep the canonical form. -/
theorem State.wf_externalTurn (s : State) (h : Memory.wf s.cfg = true) :
    Memory.wf s.externalTurn.cfg = true := by
  unfold State.externalTurn
  split
  · exact h
  · rename_i moves rest _
    suffices ∀ (ms : List ExternalMove) (t : State), Memory.wf t.cfg = true →
        Memory.wf (ms.foldl State.externalMove t).cfg = true from this moves _ h
    intro ms
    induction ms with
    | nil => exact fun _ h => h
    | cons m ms ih => exact fun t ht => ih _ (t.wf_externalMove m ht)

theorem State.wf_ioWriteAddr (s : State) (v : Word) (h : Memory.wf s.cfg = true) :
    Memory.wf (s.ioWriteAddr v).cfg = true := s.wf_externalTurn h

theorem State.wf_ioReadData (s : State) (h : Memory.wf s.cfg = true) :
    Memory.wf s.ioReadData.2.cfg = true := s.wf_externalTurn h

theorem State.wf_ioWriteData (s : State) (v : Word) (h : Memory.wf s.cfg = true) :
    Memory.wf (s.ioWriteData v).cfg = true :=
  State.wf_cfgAfterWrite _ _ (s.wf_externalTurn h)

/-- A round trip keeps the canonical form. -/
theorem State.wf_readConfig (s : State) (bus : BusNo) (dev : DevNo) (fn : FnNo) (offset : Byte)
    (h : Memory.wf s.cfg = true) : Memory.wf (s.readConfig bus dev fn offset).2.cfg = true :=
  State.wf_ioReadData _ (s.wf_ioWriteAddr _ h)

theorem State.wf_writeConfig (s : State) (bus : BusNo) (dev : DevNo) (fn : FnNo) (offset : Byte) (v : Word)
    (h : Memory.wf s.cfg = true) : Memory.wf (s.writeConfig bus dev fn offset v).cfg = true :=
  State.wf_ioWriteData _ _ (s.wf_ioWriteAddr _ h)

/-- The memory after reset is in canonical form. -/
theorem State.wf_reset : Memory.wf State.reset.cfg = true := rfl

end Sys2Proof.Machine
end

