-- ==== Sys2Proof/Laws/State.lean ====
section
/-! SUPPORT. What each shared operation of the machine does to each field of the state: one lemma per field. -/

namespace Sys2Proof.Machine

/-! ## External moves -/

@[simp] theorem State.externalMove_regCount (s : State) (m : ExternalMove) :
    (s.externalMove m).regCount = s.regCount := by
  cases m <;> rfl

@[simp] theorem State.externalMove_regEntry (s : State) (m : ExternalMove) :
    (s.externalMove m).regEntry = s.regEntry := by
  cases m <;> rfl

@[simp] theorem State.externalMove_run (s : State) (m : ExternalMove) :
    (s.externalMove m).run = s.run := by
  cases m <;> rfl

@[simp] theorem State.externalMove_cursor (s : State) (m : ExternalMove) :
    (s.externalMove m).cursor = s.cursor := by
  cases m <;> rfl

@[simp] theorem State.externalMove_ret (s : State) (m : ExternalMove) :
    (s.externalMove m).ret = s.ret := by
  cases m <;> rfl

@[simp] theorem State.externalMove_commands (s : State) (m : ExternalMove) :
    (s.externalMove m).commands = s.commands := by
  cases m <;> rfl

@[simp] theorem State.externalMove_trace (s : State) (m : ExternalMove) :
    (s.externalMove m).trace = s.trace := by
  cases m <;> rfl

@[simp] theorem State.externalMove_responses (s : State) (m : ExternalMove) :
    (s.externalMove m).responses = s.responses := by
  cases m <;> rfl

@[simp] theorem State.externalMove_draws (s : State) (m : ExternalMove) :
    (s.externalMove m).draws = s.draws := by
  cases m <;> rfl

@[simp] theorem State.externalMove_external (s : State) (m : ExternalMove) :
    (s.externalMove m).external = s.external := by
  cases m <;> rfl

@[simp] theorem State.externalMoves_regCount (ms : List ExternalMove) (s : State) :
    (ms.foldl State.externalMove s).regCount = s.regCount := by
  induction ms generalizing s with
  | nil => rfl
  | cons m ms ih => simp [ih]

@[simp] theorem State.externalMoves_regEntry (ms : List ExternalMove) (s : State) :
    (ms.foldl State.externalMove s).regEntry = s.regEntry := by
  induction ms generalizing s with
  | nil => rfl
  | cons m ms ih => simp [ih]

@[simp] theorem State.externalMoves_run (ms : List ExternalMove) (s : State) :
    (ms.foldl State.externalMove s).run = s.run := by
  induction ms generalizing s with
  | nil => rfl
  | cons m ms ih => simp [ih]

@[simp] theorem State.externalMoves_cursor (ms : List ExternalMove) (s : State) :
    (ms.foldl State.externalMove s).cursor = s.cursor := by
  induction ms generalizing s with
  | nil => rfl
  | cons m ms ih => simp [ih]

@[simp] theorem State.externalMoves_ret (ms : List ExternalMove) (s : State) :
    (ms.foldl State.externalMove s).ret = s.ret := by
  induction ms generalizing s with
  | nil => rfl
  | cons m ms ih => simp [ih]

@[simp] theorem State.externalMoves_commands (ms : List ExternalMove) (s : State) :
    (ms.foldl State.externalMove s).commands = s.commands := by
  induction ms generalizing s with
  | nil => rfl
  | cons m ms ih => simp [ih]

@[simp] theorem State.externalMoves_trace (ms : List ExternalMove) (s : State) :
    (ms.foldl State.externalMove s).trace = s.trace := by
  induction ms generalizing s with
  | nil => rfl
  | cons m ms ih => simp [ih]

@[simp] theorem State.externalMoves_responses (ms : List ExternalMove) (s : State) :
    (ms.foldl State.externalMove s).responses = s.responses := by
  induction ms generalizing s with
  | nil => rfl
  | cons m ms ih => simp [ih]

@[simp] theorem State.externalMoves_draws (ms : List ExternalMove) (s : State) :
    (ms.foldl State.externalMove s).draws = s.draws := by
  induction ms generalizing s with
  | nil => rfl
  | cons m ms ih => simp [ih]

@[simp] theorem State.externalMoves_external (ms : List ExternalMove) (s : State) :
    (ms.foldl State.externalMove s).external = s.external := by
  induction ms generalizing s with
  | nil => rfl
  | cons m ms ih => simp [ih]

@[simp] theorem State.externalTurn_regCount (s : State) : s.externalTurn.regCount = s.regCount := by
  unfold State.externalTurn; split <;> simp

@[simp] theorem State.externalTurn_regEntry (s : State) : s.externalTurn.regEntry = s.regEntry := by
  unfold State.externalTurn; split <;> simp

@[simp] theorem State.externalTurn_run (s : State) : s.externalTurn.run = s.run := by
  unfold State.externalTurn; split <;> simp

@[simp] theorem State.externalTurn_cursor (s : State) : s.externalTurn.cursor = s.cursor := by
  unfold State.externalTurn; split <;> simp

@[simp] theorem State.externalTurn_ret (s : State) : s.externalTurn.ret = s.ret := by
  unfold State.externalTurn; split <;> simp

@[simp] theorem State.externalTurn_commands (s : State) : s.externalTurn.commands = s.commands := by
  unfold State.externalTurn; split <;> simp

@[simp] theorem State.externalTurn_trace (s : State) : s.externalTurn.trace = s.trace := by
  unfold State.externalTurn; split <;> simp

@[simp] theorem State.externalTurn_responses (s : State) : s.externalTurn.responses = s.responses := by
  unfold State.externalTurn; split <;> simp

@[simp] theorem State.externalTurn_draws (s : State) : s.externalTurn.draws = s.draws := by
  unfold State.externalTurn; split <;> simp

@[simp] theorem State.externalTurn_external (s : State) : s.externalTurn.external = s.external.tail := by
  unfold State.externalTurn
  split
  · simp_all
  · simp_all

/-- Under the premise of R227 the external turn does nothing. -/
theorem State.externalTurn_of_nil (s : State) (h : s.external = []) : s.externalTurn = s := by
  unfold State.externalTurn
  simp [h]

/-! ## Port transactions -/

@[simp] theorem State.ioWriteAddr_regCount (s : State) (v : Word) : (s.ioWriteAddr v).regCount = s.regCount := by
  simp [State.ioWriteAddr]

@[simp] theorem State.ioWriteAddr_regEntry (s : State) (v : Word) : (s.ioWriteAddr v).regEntry = s.regEntry := by
  simp [State.ioWriteAddr]

@[simp] theorem State.ioWriteAddr_run (s : State) (v : Word) : (s.ioWriteAddr v).run = s.run := by
  simp [State.ioWriteAddr]

@[simp] theorem State.ioWriteAddr_cursor (s : State) (v : Word) : (s.ioWriteAddr v).cursor = s.cursor := by
  simp [State.ioWriteAddr]

@[simp] theorem State.ioWriteAddr_ret (s : State) (v : Word) : (s.ioWriteAddr v).ret = s.ret := by
  simp [State.ioWriteAddr]

@[simp] theorem State.ioWriteAddr_commands (s : State) (v : Word) : (s.ioWriteAddr v).commands = s.commands := by
  simp [State.ioWriteAddr]

@[simp] theorem State.ioWriteAddr_responses (s : State) (v : Word) : (s.ioWriteAddr v).responses = s.responses := by
  simp [State.ioWriteAddr]

@[simp] theorem State.ioWriteAddr_cfgAddr (s : State) (v : Word) : (s.ioWriteAddr v).cfgAddr = v := by
  simp [State.ioWriteAddr]

@[simp] theorem State.ioWriteAddr_trace (s : State) (v : Word) : (s.ioWriteAddr v).trace = s.trace ++ [.wa v] := by
  simp [State.ioWriteAddr]

@[simp] theorem State.ioWriteAddr_draws (s : State) (v : Word) : (s.ioWriteAddr v).draws = s.draws := by
  simp [State.ioWriteAddr]

@[simp] theorem State.ioWriteAddr_external (s : State) (v : Word) : (s.ioWriteAddr v).external = s.external.tail := by
  simp [State.ioWriteAddr]

@[simp] theorem State.ioReadData_regCount (s : State)  : (s.ioReadData.2).regCount = s.regCount := by
  simp [State.ioReadData]

@[simp] theorem State.ioReadData_regEntry (s : State)  : (s.ioReadData.2).regEntry = s.regEntry := by
  simp [State.ioReadData]

@[simp] theorem State.ioReadData_run (s : State)  : (s.ioReadData.2).run = s.run := by
  simp [State.ioReadData]

@[simp] theorem State.ioReadData_cursor (s : State)  : (s.ioReadData.2).cursor = s.cursor := by
  simp [State.ioReadData]

@[simp] theorem State.ioReadData_ret (s : State)  : (s.ioReadData.2).ret = s.ret := by
  simp [State.ioReadData]

@[simp] theorem State.ioReadData_commands (s : State)  : (s.ioReadData.2).commands = s.commands := by
  simp [State.ioReadData]

@[simp] theorem State.ioReadData_responses (s : State)  : (s.ioReadData.2).responses = s.responses := by
  simp [State.ioReadData]

@[simp] theorem State.ioReadData_external (s : State)  : (s.ioReadData.2).external = s.external.tail := by
  simp [State.ioReadData]

@[simp] theorem State.ioWriteData_regCount (s : State) (v : Word) : (s.ioWriteData v).regCount = s.regCount := by
  simp [State.ioWriteData]

@[simp] theorem State.ioWriteData_regEntry (s : State) (v : Word) : (s.ioWriteData v).regEntry = s.regEntry := by
  simp [State.ioWriteData]

@[simp] theorem State.ioWriteData_run (s : State) (v : Word) : (s.ioWriteData v).run = s.run := by
  simp [State.ioWriteData]

@[simp] theorem State.ioWriteData_cursor (s : State) (v : Word) : (s.ioWriteData v).cursor = s.cursor := by
  simp [State.ioWriteData]

@[simp] theorem State.ioWriteData_ret (s : State) (v : Word) : (s.ioWriteData v).ret = s.ret := by
  simp [State.ioWriteData]

@[simp] theorem State.ioWriteData_commands (s : State) (v : Word) : (s.ioWriteData v).commands = s.commands := by
  simp [State.ioWriteData]

@[simp] theorem State.ioWriteData_responses (s : State) (v : Word) : (s.ioWriteData v).responses = s.responses := by
  simp [State.ioWriteData]

@[simp] theorem State.ioWriteData_trace (s : State) (v : Word) : (s.ioWriteData v).trace = s.trace ++ [.wd v] := by
  simp [State.ioWriteData]

@[simp] theorem State.ioWriteData_draws (s : State) (v : Word) : (s.ioWriteData v).draws = s.draws := by
  simp [State.ioWriteData]

@[simp] theorem State.ioWriteData_external (s : State) (v : Word) : (s.ioWriteData v).external = s.external.tail := by
  simp [State.ioWriteData]

@[simp] theorem State.ioReadData_cfgAddr (s : State) :
    s.ioReadData.2.cfgAddr = s.externalTurn.cfgAddr := rfl

@[simp] theorem State.ioReadData_cfg (s : State) : s.ioReadData.2.cfg = s.externalTurn.cfg := rfl

@[simp] theorem State.ioReadData_trace (s : State) :
    s.ioReadData.2.trace = s.trace ++ [.rd s.ioReadData.1] := by
  simp [State.ioReadData]

@[simp] theorem State.ioWriteData_cfgAddr (s : State) (v : Word) :
    (s.ioWriteData v).cfgAddr = s.externalTurn.cfgAddr := rfl

@[simp] theorem State.ioWriteAddr_cfg (s : State) (v : Word) :
    (s.ioWriteAddr v).cfg = s.externalTurn.cfg := rfl

/-! ## Round trips -/

@[simp] theorem State.readConfig_regCount (s : State) (bus : BusNo) (dev : DevNo) (fn : FnNo) (offset : Byte) :
    ((s.readConfig bus dev fn offset).2).regCount = s.regCount := by
  simp [State.readConfig]

@[simp] theorem State.readConfig_regEntry (s : State) (bus : BusNo) (dev : DevNo) (fn : FnNo) (offset : Byte) :
    ((s.readConfig bus dev fn offset).2).regEntry = s.regEntry := by
  simp [State.readConfig]

@[simp] theorem State.readConfig_run (s : State) (bus : BusNo) (dev : DevNo) (fn : FnNo) (offset : Byte) :
    ((s.readConfig bus dev fn offset).2).run = s.run := by
  simp [State.readConfig]

@[simp] theorem State.readConfig_cursor (s : State) (bus : BusNo) (dev : DevNo) (fn : FnNo) (offset : Byte) :
    ((s.readConfig bus dev fn offset).2).cursor = s.cursor := by
  simp [State.readConfig]

@[simp] theorem State.readConfig_ret (s : State) (bus : BusNo) (dev : DevNo) (fn : FnNo) (offset : Byte) :
    ((s.readConfig bus dev fn offset).2).ret = s.ret := by
  simp [State.readConfig]

@[simp] theorem State.readConfig_commands (s : State) (bus : BusNo) (dev : DevNo) (fn : FnNo) (offset : Byte) :
    ((s.readConfig bus dev fn offset).2).commands = s.commands := by
  simp [State.readConfig]

@[simp] theorem State.readConfig_responses (s : State) (bus : BusNo) (dev : DevNo) (fn : FnNo) (offset : Byte) :
    ((s.readConfig bus dev fn offset).2).responses = s.responses := by
  simp [State.readConfig]

@[simp] theorem State.writeConfig_regCount (s : State) (bus : BusNo) (dev : DevNo) (fn : FnNo) (offset : Byte) (v : Word) :
    (s.writeConfig bus dev fn offset v).regCount = s.regCount := by
  simp [State.writeConfig]

@[simp] theorem State.writeConfig_regEntry (s : State) (bus : BusNo) (dev : DevNo) (fn : FnNo) (offset : Byte) (v : Word) :
    (s.writeConfig bus dev fn offset v).regEntry = s.regEntry := by
  simp [State.writeConfig]

@[simp] theorem State.writeConfig_run (s : State) (bus : BusNo) (dev : DevNo) (fn : FnNo) (offset : Byte) (v : Word) :
    (s.writeConfig bus dev fn offset v).run = s.run := by
  simp [State.writeConfig]

@[simp] theorem State.writeConfig_cursor (s : State) (bus : BusNo) (dev : DevNo) (fn : FnNo) (offset : Byte) (v : Word) :
    (s.writeConfig bus dev fn offset v).cursor = s.cursor := by
  simp [State.writeConfig]

@[simp] theorem State.writeConfig_ret (s : State) (bus : BusNo) (dev : DevNo) (fn : FnNo) (offset : Byte) (v : Word) :
    (s.writeConfig bus dev fn offset v).ret = s.ret := by
  simp [State.writeConfig]

@[simp] theorem State.writeConfig_commands (s : State) (bus : BusNo) (dev : DevNo) (fn : FnNo) (offset : Byte) (v : Word) :
    (s.writeConfig bus dev fn offset v).commands = s.commands := by
  simp [State.writeConfig]

@[simp] theorem State.writeConfig_responses (s : State) (bus : BusNo) (dev : DevNo) (fn : FnNo) (offset : Byte) (v : Word) :
    (s.writeConfig bus dev fn offset v).responses = s.responses := by
  simp [State.writeConfig]

@[simp] theorem State.readConfig_external (s : State) (bus : BusNo) (dev : DevNo) (fn : FnNo) (offset : Byte) :
    (s.readConfig bus dev fn offset).2.external = s.external.tail.tail := by
  simp [State.readConfig]

/-- A round trip's two events (R130). -/
@[simp] theorem State.readConfig_trace (s : State) (bus : BusNo) (dev : DevNo) (fn : FnNo) (offset : Byte) :
    (s.readConfig bus dev fn offset).2.trace =
      s.trace ++ [.wa (encodeAddress bus dev fn offset), .rd (s.readConfig bus dev fn offset).1] := by
  simp [State.readConfig]

@[simp] theorem State.writeConfig_external (s : State) (bus : BusNo) (dev : DevNo) (fn : FnNo) (offset : Byte)
    (v : Word) : (s.writeConfig bus dev fn offset v).external = s.external.tail.tail := by
  simp [State.writeConfig]

@[simp] theorem State.writeConfig_draws (s : State) (bus : BusNo) (dev : DevNo) (fn : FnNo) (offset : Byte)
    (v : Word) : (s.writeConfig bus dev fn offset v).draws = s.draws := by
  simp [State.writeConfig]

@[simp] theorem State.writeConfig_trace (s : State) (bus : BusNo) (dev : DevNo) (fn : FnNo) (offset : Byte)
    (v : Word) : (s.writeConfig bus dev fn offset v).trace =
      s.trace ++ [.wa (encodeAddress bus dev fn offset), .wd v] := by
  simp [State.writeConfig]

/-! ## Round trips in one record -/

@[simp] theorem State.afterRead_regCount (s : State) (a : Word) : (s.afterRead a).regCount = s.regCount := rfl

@[simp] theorem State.afterRead_regEntry (s : State) (a : Word) : (s.afterRead a).regEntry = s.regEntry := rfl

@[simp] theorem State.afterRead_cfgAddr (s : State) (a : Word) : (s.afterRead a).cfgAddr = a := rfl

@[simp] theorem State.afterRead_run (s : State) (a : Word) : (s.afterRead a).run = s.run := rfl

@[simp] theorem State.afterRead_cursor (s : State) (a : Word) : (s.afterRead a).cursor = s.cursor := rfl

@[simp] theorem State.afterRead_cfg (s : State) (a : Word) : (s.afterRead a).cfg = s.cfg := rfl

@[simp] theorem State.afterRead_ret (s : State) (a : Word) : (s.afterRead a).ret = s.ret := rfl

@[simp] theorem State.afterRead_commands (s : State) (a : Word) : (s.afterRead a).commands = s.commands := rfl

@[simp] theorem State.afterRead_external (s : State) (a : Word) : (s.afterRead a).external = s.external := rfl

@[simp] theorem State.afterRead_trace (s : State) (a : Word) : (s.afterRead a).trace = s.trace ++ [.wa a, .rd (s.answerAt s.draws a)] := rfl

@[simp] theorem State.afterRead_responses (s : State) (a : Word) : (s.afterRead a).responses = s.responses := rfl

@[simp] theorem State.afterRead_draws (s : State) (a : Word) : (s.afterRead a).draws = s.draws + s.answerDraws a := rfl

@[simp] theorem State.afterWrite_regCount (s : State) (a v : Word) : (s.afterWrite a v).regCount = s.regCount := rfl

@[simp] theorem State.afterWrite_regEntry (s : State) (a v : Word) : (s.afterWrite a v).regEntry = s.regEntry := rfl

@[simp] theorem State.afterWrite_cfgAddr (s : State) (a v : Word) : (s.afterWrite a v).cfgAddr = a := rfl

@[simp] theorem State.afterWrite_run (s : State) (a v : Word) : (s.afterWrite a v).run = s.run := rfl

@[simp] theorem State.afterWrite_cursor (s : State) (a v : Word) : (s.afterWrite a v).cursor = s.cursor := rfl

@[simp] theorem State.afterWrite_cfg (s : State) (a v : Word) : (s.afterWrite a v).cfg = s.cfgAfterWrite a := rfl

@[simp] theorem State.afterWrite_ret (s : State) (a v : Word) : (s.afterWrite a v).ret = s.ret := rfl

@[simp] theorem State.afterWrite_commands (s : State) (a v : Word) : (s.afterWrite a v).commands = s.commands := rfl

@[simp] theorem State.afterWrite_external (s : State) (a v : Word) : (s.afterWrite a v).external = s.external := rfl

@[simp] theorem State.afterWrite_trace (s : State) (a v : Word) : (s.afterWrite a v).trace = s.trace ++ [.wa a, .wd v] := rfl

@[simp] theorem State.afterWrite_responses (s : State) (a v : Word) : (s.afterWrite a v).responses = s.responses := rfl

@[simp] theorem State.afterWrite_draws (s : State) (a v : Word) : (s.afterWrite a v).draws = s.draws := rfl

/-! ## Registry -/

@[simp] theorem State.regReset_regCount (s : State) : s.regReset.2.regCount = 0 := rfl

@[simp] theorem State.regReset_regEntry (s : State) : s.regReset.2.regEntry = s.regEntry := rfl

@[simp] theorem State.regReset_cfgAddr (s : State) : s.regReset.2.cfgAddr = s.cfgAddr := rfl

@[simp] theorem State.regReset_run (s : State) : s.regReset.2.run = s.run := rfl

@[simp] theorem State.regReset_cursor (s : State) : s.regReset.2.cursor = s.cursor := rfl

@[simp] theorem State.regReset_cfg (s : State) : s.regReset.2.cfg = s.cfg := rfl

@[simp] theorem State.regReset_ret (s : State) : s.regReset.2.ret = s.ret := rfl

@[simp] theorem State.regReset_commands (s : State) : s.regReset.2.commands = s.commands := rfl

@[simp] theorem State.regReset_external (s : State) : s.regReset.2.external = s.external := rfl

@[simp] theorem State.regReset_trace (s : State) : s.regReset.2.trace = s.trace := rfl

@[simp] theorem State.regReset_responses (s : State) : s.regReset.2.responses = s.responses := rfl

@[simp] theorem State.regReset_draws (s : State) : s.regReset.2.draws = s.draws := rfl

@[simp] theorem State.regAdd_cfgAddr (s : State) (d : Device) : (s.regAdd d).2.cfgAddr = s.cfgAddr := by
  unfold State.regAdd; split <;> rfl

@[simp] theorem State.regAdd_run (s : State) (d : Device) : (s.regAdd d).2.run = s.run := by
  unfold State.regAdd; split <;> rfl

@[simp] theorem State.regAdd_cursor (s : State) (d : Device) : (s.regAdd d).2.cursor = s.cursor := by
  unfold State.regAdd; split <;> rfl

@[simp] theorem State.regAdd_cfg (s : State) (d : Device) : (s.regAdd d).2.cfg = s.cfg := by
  unfold State.regAdd; split <;> rfl

@[simp] theorem State.regAdd_ret (s : State) (d : Device) : (s.regAdd d).2.ret = s.ret := by
  unfold State.regAdd; split <;> rfl

@[simp] theorem State.regAdd_commands (s : State) (d : Device) : (s.regAdd d).2.commands = s.commands := by
  unfold State.regAdd; split <;> rfl

@[simp] theorem State.regAdd_external (s : State) (d : Device) : (s.regAdd d).2.external = s.external := by
  unfold State.regAdd; split <;> rfl

@[simp] theorem State.regAdd_trace (s : State) (d : Device) : (s.regAdd d).2.trace = s.trace := by
  unfold State.regAdd; split <;> rfl

@[simp] theorem State.regAdd_responses (s : State) (d : Device) : (s.regAdd d).2.responses = s.responses := by
  unfold State.regAdd; split <;> rfl

@[simp] theorem State.regAdd_draws (s : State) (d : Device) : (s.regAdd d).2.draws = s.draws := by
  unfold State.regAdd; split <;> rfl

@[simp] theorem State.regRead_state (s : State) (index : Byte) : (s.regRead index).2 = s := by
  unfold State.regRead; split <;> rfl

/-! ## Returns -/

@[simp] theorem State.respond_regCount (s : State) (r : Returned) : (s.respond r).regCount = s.regCount := rfl

@[simp] theorem State.respond_regEntry (s : State) (r : Returned) : (s.respond r).regEntry = s.regEntry := rfl

@[simp] theorem State.respond_cfgAddr (s : State) (r : Returned) : (s.respond r).cfgAddr = s.cfgAddr := rfl

@[simp] theorem State.respond_run (s : State) (r : Returned) : (s.respond r).run = .idle := rfl

@[simp] theorem State.respond_cursor (s : State) (r : Returned) : (s.respond r).cursor = s.cursor := rfl

@[simp] theorem State.respond_cfg (s : State) (r : Returned) : (s.respond r).cfg = s.cfg := rfl

@[simp] theorem State.respond_ret (s : State) (r : Returned) : (s.respond r).ret = s.ret := rfl

@[simp] theorem State.respond_commands (s : State) (r : Returned) : (s.respond r).commands = s.commands := rfl

@[simp] theorem State.respond_external (s : State) (r : Returned) : (s.respond r).external = s.external := rfl

@[simp] theorem State.respond_trace (s : State) (r : Returned) : (s.respond r).trace = s.trace := rfl

@[simp] theorem State.respond_responses (s : State) (r : Returned) : (s.respond r).responses = s.responses ++ [r.response s.draws] := rfl

@[simp] theorem State.respond_draws (s : State) (r : Returned) : (s.respond r).draws = s.draws + r.draws := rfl

@[simp] theorem State.deliver_regCount (s : State) (r : Returned) : (s.deliver r).regCount = s.regCount := by
  unfold State.deliver; split <;> rfl

@[simp] theorem State.deliver_regEntry (s : State) (r : Returned) : (s.deliver r).regEntry = s.regEntry := by
  unfold State.deliver; split <;> rfl

@[simp] theorem State.deliver_cfgAddr (s : State) (r : Returned) : (s.deliver r).cfgAddr = s.cfgAddr := by
  unfold State.deliver; split <;> rfl

/-- The engine is Idle once it has handed over the response to the host. -/
@[simp] theorem State.deliver_run (s : State) (r : Returned) :
    (s.deliver r).run = if s.cursor = [] then .idle else s.run := by
  cases h : s.cursor <;> simp [State.deliver, h]

@[simp] theorem State.deliver_cursor (s : State) (r : Returned) : (s.deliver r).cursor = s.cursor := by
  unfold State.deliver; split <;> rfl

@[simp] theorem State.deliver_cfg (s : State) (r : Returned) : (s.deliver r).cfg = s.cfg := by
  unfold State.deliver; split <;> rfl

@[simp] theorem State.deliver_commands (s : State) (r : Returned) : (s.deliver r).commands = s.commands := by
  unfold State.deliver; split <;> rfl

@[simp] theorem State.deliver_external (s : State) (r : Returned) : (s.deliver r).external = s.external := by
  unfold State.deliver; split <;> rfl

@[simp] theorem State.deliver_trace (s : State) (r : Returned) : (s.deliver r).trace = s.trace := by
  unfold State.deliver; split <;> rfl

@[simp] theorem State.call_regCount (s : State) (a : Activation) : (s.call a).regCount = s.regCount := rfl

@[simp] theorem State.call_regEntry (s : State) (a : Activation) : (s.call a).regEntry = s.regEntry := rfl

@[simp] theorem State.call_cfgAddr (s : State) (a : Activation) : (s.call a).cfgAddr = s.cfgAddr := rfl

@[simp] theorem State.call_run (s : State) (a : Activation) : (s.call a).run = s.run := rfl

@[simp] theorem State.call_cursor (s : State) (a : Activation) : (s.call a).cursor = a :: s.cursor := rfl

@[simp] theorem State.call_cfg (s : State) (a : Activation) : (s.call a).cfg = s.cfg := rfl

@[simp] theorem State.call_ret (s : State) (a : Activation) : (s.call a).ret = none := rfl

@[simp] theorem State.call_commands (s : State) (a : Activation) : (s.call a).commands = s.commands := rfl

@[simp] theorem State.call_external (s : State) (a : Activation) : (s.call a).external = s.external := rfl

@[simp] theorem State.call_trace (s : State) (a : Activation) : (s.call a).trace = s.trace := rfl

@[simp] theorem State.call_responses (s : State) (a : Activation) : (s.call a).responses = s.responses := rfl

@[simp] theorem State.call_draws (s : State) (a : Activation) : (s.call a).draws = s.draws := rfl

@[simp] theorem State.finish_regCount (s : State) (r : Returned) : (s.finish r).regCount = s.regCount := by
  unfold State.finish; split <;> rfl

@[simp] theorem State.finish_regEntry (s : State) (r : Returned) : (s.finish r).regEntry = s.regEntry := by
  unfold State.finish; split <;> rfl

@[simp] theorem State.finish_cfgAddr (s : State) (r : Returned) : (s.finish r).cfgAddr = s.cfgAddr := by
  unfold State.finish; split <;> rfl

@[simp] theorem State.finish_cfg (s : State) (r : Returned) : (s.finish r).cfg = s.cfg := by
  unfold State.finish; split <;> rfl

@[simp] theorem State.finish_commands (s : State) (r : Returned) : (s.finish r).commands = s.commands := by
  unfold State.finish; split <;> rfl

@[simp] theorem State.finish_external (s : State) (r : Returned) : (s.finish r).external = s.external := by
  unfold State.finish; split <;> rfl

@[simp] theorem State.finish_trace (s : State) (r : Returned) : (s.finish r).trace = s.trace := by
  unfold State.finish; split <;> rfl

/-! ## The host's side -/

@[simp] theorem State.takeCommand_run (s : State) (rest : List Word64) : (s.takeCommand rest).run = .busy := rfl

@[simp] theorem State.takeCommand_cursor (s : State) (rest : List Word64) : (s.takeCommand rest).cursor = [] := rfl

@[simp] theorem State.takeCommand_commands (s : State) (rest : List Word64) :
    (s.takeCommand rest).commands = rest := rfl

@[simp] theorem State.takeCommand_regCount (s : State) (rest : List Word64) :
    (s.takeCommand rest).regCount = s.regCount := rfl

@[simp] theorem State.takeCommand_regEntry (s : State) (rest : List Word64) :
    (s.takeCommand rest).regEntry = s.regEntry := rfl

@[simp] theorem State.takeCommand_cfgAddr (s : State) (rest : List Word64) :
    (s.takeCommand rest).cfgAddr = s.cfgAddr := rfl

@[simp] theorem State.takeCommand_cfg (s : State) (rest : List Word64) :
    (s.takeCommand rest).cfg = s.cfg := rfl

@[simp] theorem State.takeCommand_ret (s : State) (rest : List Word64) :
    (s.takeCommand rest).ret = s.ret := rfl

@[simp] theorem State.takeCommand_external (s : State) (rest : List Word64) :
    (s.takeCommand rest).external = s.external := rfl

@[simp] theorem State.takeCommand_trace (s : State) (rest : List Word64) :
    (s.takeCommand rest).trace = s.trace := rfl

@[simp] theorem State.takeCommand_responses (s : State) (rest : List Word64) :
    (s.takeCommand rest).responses = s.responses := rfl

@[simp] theorem State.takeCommand_draws (s : State) (rest : List Word64) :
    (s.takeCommand rest).draws = s.draws := rfl

@[simp] theorem State.withCommand_regCount (s : State) (w : Word64) : (s.withCommand w).regCount = s.regCount := rfl

@[simp] theorem State.withCommand_regEntry (s : State) (w : Word64) : (s.withCommand w).regEntry = s.regEntry := rfl

@[simp] theorem State.withCommand_cfgAddr (s : State) (w : Word64) : (s.withCommand w).cfgAddr = s.cfgAddr := rfl

@[simp] theorem State.withCommand_run (s : State) (w : Word64) : (s.withCommand w).run = .idle := rfl

@[simp] theorem State.withCommand_cursor (s : State) (w : Word64) : (s.withCommand w).cursor = [] := rfl

@[simp] theorem State.withCommand_cfg (s : State) (w : Word64) : (s.withCommand w).cfg = s.cfg := rfl

@[simp] theorem State.withCommand_ret (s : State) (w : Word64) : (s.withCommand w).ret = none := rfl

@[simp] theorem State.withCommand_commands (s : State) (w : Word64) : (s.withCommand w).commands = w :: s.commands := rfl

@[simp] theorem State.withCommand_external (s : State) (w : Word64) : (s.withCommand w).external = s.external := rfl

@[simp] theorem State.withCommand_trace (s : State) (w : Word64) : (s.withCommand w).trace = s.trace := rfl

@[simp] theorem State.withCommand_responses (s : State) (w : Word64) : (s.withCommand w).responses = s.responses := rfl

@[simp] theorem State.withCommand_draws (s : State) (w : Word64) : (s.withCommand w).draws = s.draws := rfl

end Sys2Proof.Machine
end

