-- ==== Sys2Proof/Laws/Ops.lean ====
section
/-! SUPPORT. What each shared operation can do, said once; proofs cite these instead of unfolding it. -/

namespace Sys2Proof.Machine

/-! ## Port transactions and round trips, where no external agent acts (R227) -/

theorem State.ioWriteAddr_of_nil (s : State) (v : Word) (h : s.external = []) :
    s.ioWriteAddr v = { s with cfgAddr := v, trace := s.trace ++ [.wa v] } := by
  simp [State.ioWriteAddr, s.externalTurn_of_nil h]

theorem State.ioReadData_of_nil (s : State) (h : s.external = []) :
    s.ioReadData = (s.answerAt s.draws s.cfgAddr,
      { s with trace := s.trace ++ [.rd (s.answerAt s.draws s.cfgAddr)],
               draws := s.draws + s.answerDraws s.cfgAddr }) := by
  simp [State.ioReadData, s.externalTurn_of_nil h]

theorem State.ioWriteData_of_nil (s : State) (v : Word) (h : s.external = []) :
    s.ioWriteData v = { s with cfg := s.cfgAfterWrite s.cfgAddr, trace := s.trace ++ [.wd v] } := by
  simp [State.ioWriteData, s.externalTurn_of_nil h]

/-- A configuration read is one round trip at the encoded address (R123). -/
theorem State.readConfig_of_nil (s : State) (bus : BusNo) (dev : DevNo) (fn : FnNo) (offset : Byte)
    (h : s.external = []) :
    s.readConfig bus dev fn offset =
      (s.answerAt s.draws (encodeAddress bus dev fn offset),
       s.afterRead (encodeAddress bus dev fn offset)) := by
  unfold State.readConfig
  rw [s.ioWriteAddr_of_nil _ h]
  rw [State.ioReadData_of_nil _ (by exact h)]
  simp only [State.afterRead, State.answerAt, State.answerDraws, State.fixedWord, List.append_assoc,
    List.cons_append, List.nil_append]

/-- A configuration write is one round trip at the encoded address (R124). -/
theorem State.writeConfig_of_nil (s : State) (bus : BusNo) (dev : DevNo) (fn : FnNo) (offset : Byte)
    (v : Word) (h : s.external = []) :
    s.writeConfig bus dev fn offset v = s.afterWrite (encodeAddress bus dev fn offset) v := by
  unfold State.writeConfig
  rw [s.ioWriteAddr_of_nil _ h]
  rw [State.ioWriteData_of_nil _ _ (by exact h)]
  simp only [State.afterWrite, State.cfgAfterWrite, List.append_assoc, List.cons_append, List.nil_append]

/-- What a data-port read answers: the fixed word, or the draw (R54). -/
theorem State.answerAt_of_fixed (s : State) (n : Nat) (a w : Word) (h : s.fixedWord a = some w) :
    s.answerAt n a = w ∧ s.answerDraws a = 0 := by
  simp [State.answerAt, State.answerDraws, h]

theorem State.answerAt_of_free (s : State) (n : Nat) (a : Word) (h : s.fixedWord a = none) :
    s.answerAt n a = Config.cfgAnswer n a ∧ s.answerDraws a = 1 := by
  simp [State.answerAt, State.answerDraws, h]

/-! ## Returns -/

/-- With no activation a return goes to the host. -/
theorem State.deliver_host (s : State) (r : Returned) (h : s.cursor = []) : s.deliver r = s.respond r := by
  simp [State.deliver, h]

/-- With an activation a return goes to its rule. -/
theorem State.deliver_rule (s : State) (r : Returned) (h : s.cursor ≠ []) :
    s.deliver r = { s with ret := some r } := by
  obtain ⟨a, rest, hc⟩ := List.exists_cons_of_ne_nil h
  simp [State.deliver, hc]

theorem State.internally_host (s effect : State) (h : s.cursor = []) : s.internally effect = s.badCommand := by
  simp [State.internally, h]

theorem State.internally_rule (s effect : State) (h : s.cursor ≠ []) : s.internally effect = effect := by
  obtain ⟨a, rest, hc⟩ := List.exists_cons_of_ne_nil h
  simp [State.internally, hc]

theorem State.finish_last (s : State) (r : Returned) (h : s.cursor.tail = []) :
    s.finish r = { s with cursor := [], ret := none }.respond r := by
  simp [State.finish, h]

theorem State.finish_caller (s : State) (r : Returned) (a : Activation) (rest : List Activation)
    (h : s.cursor.tail = a :: rest) : s.finish r = { s with cursor := a :: rest, ret := some r } := by
  simp [State.finish, h]

/-! ## Registry -/

theorem State.regAdd_full (s : State) (d : Device) (h : s.regCount = 32) :
    s.regAdd d = (.failed .full, s) := by
  simp [State.regAdd, h]

theorem State.regAdd_append (s : State) (d : Device) (h : s.regCount ≠ 32) :
    s.regAdd d = (.value 0, { s with
      regEntry := s.regEntry.setIfInBounds s.regCount.toNat d, regCount := s.regCount + 1 }) := by
  have : ¬ s.regCount = BitVec.ofNat 6 Config.regCapacity := h
  unfold State.regAdd
  exact if_neg this

theorem State.regRead_below (s : State) (index : Byte) (h : index.toNat < s.regCount.toNat) :
    s.regRead index = (.value (packDevice (s.entry index.toNat)), s) := by
  have : ¬ s.regCount.toNat ≤ index.toNat := by omega
  simp [State.regRead, this]

theorem State.regRead_beyond (s : State) (index : Byte) (h : s.regCount.toNat ≤ index.toNat) :
    s.regRead index = (.failed .indexOutOfRange, s) := by
  simp [State.regRead, h]

/-! ## BAR resolver (R180), where no external agent acts -/

theorem State.readBar_refused (s : State) (bus : BusNo) (dev : DevNo) (fn : FnNo) (index : Byte)
    (h : 6 ≤ index.toNat) : s.readBar bus dev fn index = (.failed .indexOutOfRange, s) := by
  simp [State.readBar, h]

theorem State.readBar_single (s : State) (bus : BusNo) (dev : DevNo) (fn : FnNo) (index : Byte)
    (h : index.toNat < 6) (hb : isLowerHalf (s.readConfig bus dev fn (barOffset index)).1 = false) :
    s.readBar bus dev fn index =
      (.value ((s.readConfig bus dev fn (barOffset index)).1.setWidth 64),
       (s.readConfig bus dev fn (barOffset index)).2) := by
  have : ¬ 6 ≤ index.toNat := by omega
  simp [State.readBar, this, hb]

theorem State.readBar_noUpper (s : State) (bus : BusNo) (dev : DevNo) (fn : FnNo) (index : Byte)
    (h : index.toNat = 5) (hb : isLowerHalf (s.readConfig bus dev fn (barOffset index)).1 = true) :
    s.readBar bus dev fn index =
      (.failed .indexOutOfRange, (s.readConfig bus dev fn (barOffset index)).2) := by
  simp [State.readBar, h, hb]

theorem State.readBar_pair (s : State) (bus : BusNo) (dev : DevNo) (fn : FnNo) (index : Byte)
    (h : index.toNat < 5) (hb : isLowerHalf (s.readConfig bus dev fn (barOffset index)).1 = true) :
    s.readBar bus dev fn index =
      (.value (assemble64 (s.readConfig bus dev fn (barOffset index)).1
        ((s.readConfig bus dev fn (barOffset index)).2.readConfig bus dev fn (barOffset (index + 1))).1),
       ((s.readConfig bus dev fn (barOffset index)).2.readConfig bus dev fn (barOffset (index + 1))).2) := by
  have h1 : ¬ 6 ≤ index.toNat := by omega
  have h2 : ¬ 6 ≤ index.toNat + 1 := by omega
  simp [State.readBar, h1, h2, hb]

end Sys2Proof.Machine
end

