-- ==== Sys2Proof/Laws/PerInstr.lean ====
section
/-! SUPPORT. Statements made of each operation as syntax, one lemma per constructor. -/

namespace Sys2Proof.Laws

/-- The word an operation encodes to carries its opcode (spec/30_encoding.md R81, R85). -/
def OpcodeInWord.Statement (i : Instr) : Prop := opField (encode i) = i.opcode

theorem OpcodeInWord.encodeAddr (bus : BusNo) (dev : DevNo) (fn : FnNo) (offset : Byte) :
    OpcodeInWord.Statement (.encodeAddr bus dev fn offset) :=
  opField_commandWord _ _ _ _ _ _

theorem OpcodeInWord.wraddr (addr : Word) :
    OpcodeInWord.Statement (.wraddr addr) :=
  opField_commandWord _ _ _ _ _ _

theorem OpcodeInWord.rddata :
    OpcodeInWord.Statement (.rddata) :=
  opField_commandWord _ _ _ _ _ _

theorem OpcodeInWord.wrdata (value : Word) :
    OpcodeInWord.Statement (.wrdata value) :=
  opField_commandWord _ _ _ _ _ _

theorem OpcodeInWord.cfgrd (bus : BusNo) (dev : DevNo) (fn : FnNo) (offset : Byte) :
    OpcodeInWord.Statement (.cfgrd bus dev fn offset) :=
  opField_commandWord _ _ _ _ _ _

theorem OpcodeInWord.cfgwr (bus : BusNo) (dev : DevNo) (fn : FnNo) (offset : Byte) (value : Word) :
    OpcodeInWord.Statement (.cfgwr bus dev fn offset value) :=
  opField_commandWord _ _ _ _ _ _

theorem OpcodeInWord.rdvendor (bus : BusNo) (dev : DevNo) (fn : FnNo) :
    OpcodeInWord.Statement (.rdvendor bus dev fn) :=
  opField_commandWord _ _ _ _ _ _

theorem OpcodeInWord.rddevid (bus : BusNo) (dev : DevNo) (fn : FnNo) :
    OpcodeInWord.Statement (.rddevid bus dev fn) :=
  opField_commandWord _ _ _ _ _ _

theorem OpcodeInWord.rdhdr (bus : BusNo) (dev : DevNo) (fn : FnNo) :
    OpcodeInWord.Statement (.rdhdr bus dev fn) :=
  opField_commandWord _ _ _ _ _ _

theorem OpcodeInWord.rdclass (bus : BusNo) (dev : DevNo) (fn : FnNo) :
    OpcodeInWord.Statement (.rdclass bus dev fn) :=
  opField_commandWord _ _ _ _ _ _

theorem OpcodeInWord.rdbusnum (bus : BusNo) (dev : DevNo) (fn : FnNo) :
    OpcodeInWord.Statement (.rdbusnum bus dev fn) :=
  opField_commandWord _ _ _ _ _ _

theorem OpcodeInWord.rdbar (bus : BusNo) (dev : DevNo) (fn : FnNo) (index : Byte) :
    OpcodeInWord.Statement (.rdbar bus dev fn index) :=
  opField_commandWord _ _ _ _ _ _

theorem OpcodeInWord.scanall :
    OpcodeInWord.Statement (.scanall) :=
  opField_commandWord _ _ _ _ _ _

theorem OpcodeInWord.regcnt :
    OpcodeInWord.Statement (.regcnt) :=
  opField_commandWord _ _ _ _ _ _

theorem OpcodeInWord.regrd (index : Byte) :
    OpcodeInWord.Statement (.regrd index) :=
  opField_commandWord _ _ _ _ _ _

theorem OpcodeInWord.regreset :
    OpcodeInWord.Statement (.regreset) :=
  opField_commandWord _ _ _ _ _ _

theorem OpcodeInWord.regadd (device : Device) :
    OpcodeInWord.Statement (.regadd device) :=
  opField_commandWord _ _ _ _ _ _

theorem OpcodeInWord.scanbus (bus : BusNo) :
    OpcodeInWord.Statement (.scanbus bus) :=
  opField_commandWord _ _ _ _ _ _

theorem OpcodeInWord.scandev (bus : BusNo) (dev : DevNo) :
    OpcodeInWord.Statement (.scandev bus dev) :=
  opField_commandWord _ _ _ _ _ _

theorem OpcodeInWord.scanfn (bus : BusNo) (dev : DevNo) (fn : FnNo) :
    OpcodeInWord.Statement (.scanfn bus dev fn) :=
  opField_commandWord _ _ _ _ _ _

theorem OpcodeInWord.ccmatch1 (c : ClassCode) (base : Byte) :
    OpcodeInWord.Statement (.ccmatch1 c base) :=
  opField_commandWord _ _ _ _ _ _

theorem OpcodeInWord.ccmatch2 (c : ClassCode) (base : Byte) (sub : Byte) :
    OpcodeInWord.Statement (.ccmatch2 c base sub) :=
  opField_commandWord _ _ _ _ _ _

theorem OpcodeInWord.ccmatch3 (c : ClassCode) (base : Byte) (sub : Byte) (interface : Byte) :
    OpcodeInWord.Statement (.ccmatch3 c base sub interface) :=
  opField_commandWord _ _ _ _ _ _

theorem OpcodeInWord.issingle (header : Byte) :
    OpcodeInWord.Statement (.issingle header) :=
  opField_commandWord _ _ _ _ _ _

end Sys2Proof.Laws
end

