-- ==== Sys2Proof/Laws/Step.lean ====
section
/-! SUPPORT. What a step can do: the cases of `step`, said once. -/

namespace Sys2Proof.Machine

/-- Every operation has a meaning that answers a next state. -/
theorem exec_isNext (i : Instr) (s : State) : ∃ t, exec i s = .next t := by
  cases i <;> exact ⟨_, rfl⟩

theorem step_wait (s : State) (hr : s.run = .idle) (hc : s.commands = []) : step s = .next s := by
  simp [step, State.control, hr, hc]

theorem step_command (s : State) (w : Word64) (rest : List Word64) (i : Instr) (hr : s.run = .idle)
    (hc : s.commands = w :: rest) (hd : decode w = .command i) :
    step s = exec i (s.takeCommand rest) := by
  simp [step, State.control, State.accept, hr, hc, hd]

theorem step_illegal (s : State) (w : Word64) (rest : List Word64) (op : Byte) (hr : s.run = .idle)
    (hc : s.commands = w :: rest) (hd : decode w = .illegal op) :
    step s = .next (s.takeCommand rest).badCommand := by
  simp [step, State.control, State.accept, hr, hc, hd]

theorem step_issue (s : State) (a a' : Activation) (rest : List Activation) (i : Instr) (hr : s.run = .busy)
    (hc : s.cursor = a :: rest) (hs : nextAction a s.ret = .issue i a') :
    step s = exec i { s with cursor := a' :: rest, ret := none } := by
  simp [step, State.control, State.advance, hr, hc, hs]

theorem step_finish (s : State) (a : Activation) (rest : List Activation) (r : Returned) (hr : s.run = .busy)
    (hc : s.cursor = a :: rest) (hs : nextAction a s.ret = .finish r) :
    step s = .next (s.finish r) := by
  simp [step, State.control, State.advance, hr, hc, hs]

theorem step_lost (s : State) (a : Activation) (rest : List Activation) (hr : s.run = .busy)
    (hc : s.cursor = a :: rest) (hs : nextAction a s.ret = .lost) : step s = .fault .lostReturn := by
  simp [step, State.control, State.advance, hr, hc, hs]

/-- A step that answers a next state is one of five: the engine waits, runs the host's command, turns an
illegal word away, runs an operation the sequencer issues, or ends an activation. -/
theorem step_next_cases (s t : State) (h : step s = .next t) :
    (s.run = .idle ∧ s.commands = [] ∧ t = s) ∨
    (∃ w rest i, s.run = .idle ∧ s.commands = w :: rest ∧ decode w = .command i ∧
      exec i (s.takeCommand rest) = .next t) ∨
    (∃ w rest op, s.run = .idle ∧ s.commands = w :: rest ∧ decode w = .illegal op ∧
      t = (s.takeCommand rest).badCommand) ∨
    (∃ a a' rest i, s.run = .busy ∧ s.cursor = a :: rest ∧ nextAction a s.ret = .issue i a' ∧
      exec i { s with cursor := a' :: rest, ret := none } = .next t) ∨
    (∃ a rest r, s.run = .busy ∧ s.cursor = a :: rest ∧ nextAction a s.ret = .finish r ∧ t = s.finish r) := by
  have runs : s.run = .idle ∨ s.run = .busy := by cases s.run <;> simp
  rcases runs with hr | hr
  · cases hc : s.commands with
    | nil =>
      rw [step_wait s hr hc] at h
      exact .inl ⟨hr, rfl, by simpa using h.symm⟩
    | cons w rest =>
      cases hd : decode w with
      | command i =>
        rw [step_command s w rest i hr hc hd] at h
        exact .inr (.inl ⟨w, rest, i, hr, rfl, hd, h⟩)
      | illegal op =>
        rw [step_illegal s w rest op hr hc hd] at h
        exact .inr (.inr (.inl ⟨w, rest, op, hr, rfl, hd, by simpa using h.symm⟩))
  · cases hc : s.cursor with
    | nil => simp [step, State.control, hr, hc] at h
    | cons a rest =>
      cases hs : nextAction a s.ret with
      | issue i a' =>
        rw [step_issue s a a' rest i hr hc hs] at h
        exact .inr (.inr (.inr (.inl ⟨a, a', rest, i, hr, rfl, hs, h⟩)))
      | finish r =>
        rw [step_finish s a rest r hr hc hs] at h
        exact .inr (.inr (.inr (.inr ⟨a, rest, r, hr, rfl, hs, by simpa using h.symm⟩)))
      | lost =>
        rw [step_lost s a rest hr hc hs] at h
        cases h

end Sys2Proof.Machine
end

