-- ==== Sys2Proof/Machine/TextForm.lean ====
section
/-! DEFINITION. The textual syntax of commands and responses (spec/30_encoding.md R95): text is a list of
characters. The machine does not read text; this is the host's assembler, and how operations, events and
responses are written. -/

namespace Sys2Proof.Machine

/-- Cut a text at every `c`. -/
def cut (c : Char) : List Char → List (List Char)
  | [] => [[]]
  | x :: xs =>
    if x = c then [] :: cut c xs
    else match cut c xs with
      | [] => [[x]]
      | part :: parts => (x :: part) :: parts

/-- The value of a decimal or hexadecimal digit. -/
def digitValue (x : Char) : Option Nat :=
  let n := x.toNat
  if 48 ≤ n ∧ n ≤ 57 then some (n - 48)
  else if 65 ≤ n ∧ n ≤ 70 then some (n - 55)
  else if 97 ≤ n ∧ n ≤ 102 then some (n - 87)
  else none

/-- The digits of a number in a base, the value so far given. -/
def digitsValue (base : Nat) : Nat → List Char → Option Nat
  | acc, [] => some acc
  | acc, x :: xs =>
    match digitValue x with
    | some d => if d < base then digitsValue base (base * acc + d) xs else none
    | none => none

/-- A number "in decimal or `0x` hexadecimal" (R95). -/
def numberValue : List Char → Option Nat
  | [] => none
  | '0' :: 'x' :: [] => none
  | '0' :: 'x' :: x :: xs => digitsValue 16 0 (x :: xs)
  | x :: xs => digitsValue 10 0 (x :: xs)

/-- A number operand of a field of `width` bits; a wider value cannot be written (spec/93 U19). -/
def numberOperand (width : Nat) (text : List Char) : Option (BitVec width) :=
  match numberValue text with
  | some n => if n < 2 ^ width then some (BitVec.ofNat width n) else none
  | none => none

/-- The function `bus:dev.fn` (R95). -/
def functionOperand (text : List Char) : Option (BusNo × DevNo × FnNo) :=
  match cut ':' text with
  | [bus, rest] =>
    match cut '.' rest with
    | [dev, fn] =>
      match numberOperand 8 bus, numberOperand 5 dev, numberOperand 3 fn with
      | some b, some d, some f => some (b, d, f)
      | _, _, _ => none
    | _ => none
  | _ => none

/-- The commands without operands. -/
def assemble0 (m : List Char) : Option Instr :=
  if m = "RDDATA".toList then some .rddata
  else if m = "SCANALL".toList then some .scanall
  else if m = "REGCNT".toList then some .regcnt
  else none

/-- The commands with a number alone or a function alone. -/
def assemble1 (m a : List Char) : Option Instr :=
  if m = "WRADDR".toList then (numberOperand 32 a).map .wraddr
  else if m = "WRDATA".toList then (numberOperand 32 a).map .wrdata
  else if m = "REGRD".toList then (numberOperand 8 a).map .regrd
  else match functionOperand a with
    | none => none
    | some (b, d, f) =>
      if m = "RDVENDOR".toList then some (.rdvendor b d f)
      else if m = "RDDEVID".toList then some (.rddevid b d f)
      else if m = "RDHDR".toList then some (.rdhdr b d f)
      else if m = "RDCLASS".toList then some (.rdclass b d f)
      else if m = "RDBUSNUM".toList then some (.rdbusnum b d f)
      else none

/-- The commands with a function and `arg`. -/
def assemble2 (m a b : List Char) : Option Instr :=
  match functionOperand a, numberOperand 8 b with
  | some (bus, dev, fn), some x =>
    if m = "ENCODE".toList then some (.encodeAddr bus dev fn x)
    else if m = "CFGRD".toList then some (.cfgrd bus dev fn x)
    else if m = "RDBAR".toList then some (.rdbar bus dev fn x)
    else none
  | _, _ => none

/-- CFGWR, the command with a function, `arg` and `data`. -/
def assemble3 (m a b c : List Char) : Option Instr :=
  match functionOperand a, numberOperand 8 b, numberOperand 32 c with
  | some (bus, dev, fn), some x, some v =>
    if m = "CFGWR".toList then some (.cfgwr bus dev fn x v) else none
  | _, _, _ => none

/-- The command a text writes (R95): "its mnemonic followed by its operands", the function, then `arg`, then
`data`, separated by commas. Internal operations are written in traces only. -/
def assemble (text : List Char) : Option Instr :=
  match cut ' ' text with
  | [] => none
  | m :: words =>
    match words with
    | [] => assemble0 m
    | _ :: _ =>
      match cut ',' words.flatten with
      | [a] => assemble1 m a
      | [a, b] => assemble2 m a b
      | [a, b, c] => assemble3 m a b c
      | _ => none

/-- A result kind's name (R190). -/
def Kind.name : Kind → List Char
  | .success => "Success".toList
  | .full => "Full".toList
  | .indexOutOfRange => "IndexOutOfRange".toList
  | .badCommand => "BadCommand".toList

/-- A number in capital hexadecimal digits, without leading zeros (log 22). -/
def hexText (n : Nat) : List Char := (Nat.toDigits 16 n).map Char.toUpper

/-- A number as `0x` and its digits. -/
def hexNumber (n : Nat) : List Char := "0x".toList ++ hexText n

/-- A number in decimal digits. -/
def decText (n : Nat) : List Char := Nat.toDigits 10 n

/-- A response as it is written (R95): `-> Kind, 0xvalue`. -/
def Response.text (r : Response) : List Char :=
  "-> ".toList ++ r.kind.name ++ ", ".toList ++ hexNumber r.value.toNat

/-- A value in 8 hexadecimal digits, as the traces of spec/95_test_vectors.md write it. -/
def wordText (v : Word) : List Char :=
  List.replicate (8 - (hexText v.toNat).length) '0' ++ hexText v.toNat

/-- An event as it is written (R11): `WA(v)`, `RD(v)`, `WD(v)`. -/
def Event.text : Event → List Char
  | .wa v => "WA(".toList ++ wordText v ++ ")".toList
  | .rd v => "RD(".toList ++ wordText v ++ ")".toList
  | .wd v => "WD(".toList ++ wordText v ++ ")".toList

/-- The function `bus:dev.fn`, in decimal (R95). -/
def functionText (bus : BusNo) (dev : DevNo) (fn : FnNo) : List Char :=
  decText bus.toNat ++ ":".toList ++ decText dev.toNat ++ ".".toList ++ decText fn.toNat

/-- Parts with a separator between them. -/
def joined (separator : List Char) (parts : List (List Char)) : List Char := (parts.intersperse separator).flatten

/-- A host command: its mnemonic followed by its operands, separated by commas (R95). -/
def commandText (mnemonic : String) (operands : List (List Char)) : List Char :=
  match operands with
  | [] => mnemonic.toList
  | _ :: _ => mnemonic.toList ++ " ".toList ++ joined ", ".toList operands

/-- An internal procedure call: its arguments in parentheses, in traces only (R95). -/
def callText (mnemonic : String) (arguments : List (List Char)) : List Char :=
  mnemonic.toList ++ "(".toList ++ joined ", ".toList arguments ++ ")".toList

/-- A `ClassCode` as the examples of spec/42_registry.md write it. -/
def classText (c : ClassCode) : List Char :=
  "(".toList ++ joined ",".toList [hexNumber c.base.toNat, hexNumber c.sub.toNat, hexNumber c.interface.toNat] ++
    ")".toList

/-- A `Device` as the example of R141 writes it. -/
def deviceText (d : Device) : List Char :=
  "(".toList ++ joined ",".toList [decText d.bus.toNat, decText d.device.toNat, decText d.function.toNat,
    hexNumber d.headerType.toNat, classText d.classCode] ++ ")".toList

/-- An operation as it is written (R95). -/
def instrText : Instr → List Char
  | .encodeAddr b d f o => commandText "ENCODE" [functionText b d f, hexNumber o.toNat]
  | .wraddr a => commandText "WRADDR" [hexNumber a.toNat]
  | .rddata => commandText "RDDATA" []
  | .wrdata v => commandText "WRDATA" [hexNumber v.toNat]
  | .cfgrd b d f o => commandText "CFGRD" [functionText b d f, hexNumber o.toNat]
  | .cfgwr b d f o v => commandText "CFGWR" [functionText b d f, hexNumber o.toNat, hexNumber v.toNat]
  | .rdvendor b d f => commandText "RDVENDOR" [functionText b d f]
  | .rddevid b d f => commandText "RDDEVID" [functionText b d f]
  | .rdhdr b d f => commandText "RDHDR" [functionText b d f]
  | .rdclass b d f => commandText "RDCLASS" [functionText b d f]
  | .rdbusnum b d f => commandText "RDBUSNUM" [functionText b d f]
  | .rdbar b d f i => commandText "RDBAR" [functionText b d f, decText i.toNat]
  | .scanall => commandText "SCANALL" []
  | .regcnt => commandText "REGCNT" []
  | .regrd i => commandText "REGRD" [decText i.toNat]
  | .regreset => callText "REGRESET" []
  | .regadd d => callText "REGADD" [deviceText d]
  | .scanbus b => callText "SCANBUS" [decText b.toNat]
  | .scandev b d => callText "SCANDEV" [decText b.toNat, decText d.toNat]
  | .scanfn b d f => callText "SCANFN" [decText b.toNat, decText d.toNat, decText f.toNat]
  | .ccmatch1 c b => callText "CCMATCH1" [classText c, hexNumber b.toNat]
  | .ccmatch2 c b s => callText "CCMATCH2" [classText c, hexNumber b.toNat, hexNumber s.toNat]
  | .ccmatch3 c b s i =>
    callText "CCMATCH3" [classText c, hexNumber b.toNat, hexNumber s.toNat, hexNumber i.toNat]
  | .issingle h => callText "ISSINGLE" [hexNumber h.toNat]

end Sys2Proof.Machine
end

