-- ==== Sys2Proof/Tests/Slice0.lean ====
section
/-! SUPPORT. Tests. Expected values are those of spec/95_test_vectors.md and of the examples and tables of the
rules; each theorem's comment names its source. Below them, one witness for each obligation that has hypotheses. -/

open Sys2Proof Sys2Proof.Machine

namespace Sys2Proof.Tests

/-! ## Well-formedness: one ill-formed term for each check -/

theorem test_wf_regadd : (Instr.regadd ⟨0, 3, 0, 1, ⟨6, 4, 0⟩⟩).wellFormed = false := by decide
theorem test_wf_scanbus : (Instr.scanbus 1).wellFormed = false := by decide
theorem test_wf_scandev_bus : (Instr.scandev 1 0).wellFormed = false := by decide
theorem test_wf_scandev_dev : (Instr.scandev 0 1).wellFormed = false := by decide
theorem test_wf_scanfn_bus : (Instr.scanfn 1 0 0).wellFormed = false := by decide
theorem test_wf_scanfn_dev : (Instr.scanfn 0 1 0).wellFormed = false := by decide
theorem test_wf_scanfn_fn : (Instr.scanfn 0 0 1).wellFormed = false := by decide
theorem test_wf_ccmatch1_class : (Instr.ccmatch1 ⟨1, 0, 0⟩ 0).wellFormed = false := by decide
theorem test_wf_ccmatch1_base : (Instr.ccmatch1 .zero 1).wellFormed = false := by decide
theorem test_wf_ccmatch2_class : (Instr.ccmatch2 ⟨0, 1, 0⟩ 0 0).wellFormed = false := by decide
theorem test_wf_ccmatch2_base : (Instr.ccmatch2 .zero 1 0).wellFormed = false := by decide
theorem test_wf_ccmatch2_sub : (Instr.ccmatch2 .zero 0 1).wellFormed = false := by decide
theorem test_wf_ccmatch3_class : (Instr.ccmatch3 ⟨0, 0, 1⟩ 0 0 0).wellFormed = false := by decide
theorem test_wf_ccmatch3_base : (Instr.ccmatch3 .zero 1 0 0).wellFormed = false := by decide
theorem test_wf_ccmatch3_sub : (Instr.ccmatch3 .zero 0 1 0).wellFormed = false := by decide
theorem test_wf_ccmatch3_interface : (Instr.ccmatch3 .zero 0 0 1).wellFormed = false := by decide
theorem test_wf_issingle : (Instr.issingle 0x80).wellFormed = false := by decide
theorem test_wf_host : (Instr.cfgwr 255 31 7 0xFF 0xFFFFFFFF).wellFormed = true := by decide

/-! ## Decoding: a written-out word for every operation -/

/-- V-ENC row 1. -/
theorem test_decode_encode : decode 0x0101131000000000 = .command (.encodeAddr 1 2 3 0x10) := by decide
/-- R95. -/
theorem test_decode_wraddr : decode 0x0200000080001808 = .command (.wraddr 0x80001808) := by decide
/-- V-CMD row 13. -/
theorem test_decode_rddata : decode 0x03123456789ABCDE = .command .rddata := by decide
/-- R95. -/
theorem test_decode_wrdata : decode 0x0400000000000006 = .command (.wrdata 6) := by decide
/-- V-PORT row 10. -/
theorem test_decode_cfgrd : decode 0x0500181B00000000 = .command (.cfgrd 0 3 0 0x1B) := by decide
/-- V-PORT row 12. -/
theorem test_decode_cfgwr : decode 0x0600FFFFDEADBEEF = .command (.cfgwr 0 31 7 0xFF 0xDEADBEEF) := by decide
/-- V-PORT row 1. -/
theorem test_decode_rdvendor : decode 0x0700180000000000 = .command (.rdvendor 0 3 0) := by decide
/-- V-PORT row 7. -/
theorem test_decode_rddevid : decode 0x0800080000000000 = .command (.rddevid 0 1 0) := by decide
/-- V-PORT row 3. -/
theorem test_decode_rdhdr : decode 0x0900180000000000 = .command (.rdhdr 0 3 0) := by decide
/-- V-PORT row 4. -/
theorem test_decode_rdclass : decode 0x0A00180000000000 = .command (.rdclass 0 3 0) := by decide
/-- V-PORT row 5. -/
theorem test_decode_rdbusnum : decode 0x0B00180000000000 = .command (.rdbusnum 0 3 0) := by decide
/-- E8. -/
theorem test_decode_rdbar : decode 0x0C00200500000000 = .command (.rdbar 0 4 0 5) := by decide
/-- R95. -/
theorem test_decode_scanall : decode 0x0D00000000000000 = .command .scanall := by decide
/-- V-CMD row 10. -/
theorem test_decode_regcnt : decode 0x0EFFFFFFFFFFFFFF = .command .regcnt := by decide
/-- V-CMD row 12. -/
theorem test_decode_regrd : decode 0x0FABCD0100000000 = .command (.regrd 1) := by decide
/-- V-CMD row 4. -/
theorem test_decode_regreset : decode 0x8000000000000000 = .command .regreset := by decide
/-- V-CMD row 5: an internal code's fields carry no arguments (R92). -/
theorem test_decode_regadd : decode 0x8100180106040000 = .command (.regadd .zero) := by decide
/-- V-CMD row 6. -/
theorem test_decode_scanbus : decode 0x8201000000000000 = .command (.scanbus 0) := by decide
/-- R85. -/
theorem test_decode_scandev : decode 0x8300000000000000 = .command (.scandev 0 0) := by decide
/-- R85. -/
theorem test_decode_scanfn : decode 0x8400000000000000 = .command (.scanfn 0 0 0) := by decide
/-- R85. -/
theorem test_decode_ccmatch1 : decode 0x8500000000000000 = .command (.ccmatch1 .zero 0) := by decide
/-- R85. -/
theorem test_decode_ccmatch2 : decode 0x8600000000000000 = .command (.ccmatch2 .zero 0 0) := by decide
/-- R85. -/
theorem test_decode_ccmatch3 : decode 0x8700000000000000 = .command (.ccmatch3 .zero 0 0 0) := by decide
/-- V-CMD row 7. -/
theorem test_decode_issingle : decode 0x8800000000000000 = .command (.issingle 0) := by decide
/-- V-CMD rows 1, 2, 3, 8, 9. -/
theorem test_decode_illegal :
    [0x0000000000000000, 0x1000000000000000, 0x7FFFFFFFFFFFFFFF, 0x8900000000000000, 0xFFFFFFFFFFFFFFFF].map
      decode = [.illegal 0x00, .illegal 0x10, .illegal 0x7F, .illegal 0x89, .illegal 0xFF] := by decide
/-- The opcode table's word of ENCODE, with every operand bit 0. -/
theorem test_table_word : decodeTableWord 64 0x0100000000000000 = some (.encodeAddr 0 0 0 0) := by decide

/-! ## The textual syntax (R95's table) -/

theorem test_text_encode :
    (assemble "ENCODE 1:2.3, 0x10".toList).map encode = some 0x0101131000000000 := by decide
theorem test_text_wraddr :
    (assemble "WRADDR 0x80001808".toList).map encode = some 0x0200000080001808 := by decide
theorem test_text_cfgwr :
    (assemble "CFGWR 0:31.7, 0xFF, 0xDEADBEEF".toList).map encode = some 0x0600FFFFDEADBEEF := by decide
theorem test_text_rdvendor :
    (assemble "RDVENDOR 0:3.0".toList).map encode = some 0x0700180000000000 := by decide
theorem test_text_regrd : (assemble "REGRD 1".toList).map encode = some 0x0F00000100000000 := by decide
theorem test_text_scanall : (assemble "SCANALL".toList).map encode = some 0x0D00000000000000 := by decide

/-- R95's own examples, written back. -/
theorem test_text_written :
    [Instr.cfgwr 0 31 7 0xFF 0xDEADBEEF, .rdbar 0 4 0 0, .scanbus 1].map instrText =
      ["CFGWR 0:31.7, 0xFF, 0xDEADBEEF".toList, "RDBAR 0:4.0, 0".toList, "SCANBUS(1)".toList] := by decide
/-- V-PORT row 15 and R121's example. -/
theorem test_text_trace : (Event.wd 6).text = "WD(00000006)".toList ∧
    (Response.mk .success 0x06040000).text = "-> Success, 0x6040000".toList := by decide

/-! ## One step of each operation -/

/-- The state an outcome reaches. -/
def after : Host.Outcome State Fault Refusal → Option State
  | .next s => some s
  | .fault _ => none
  | .refused _ => none

/-- Words of the table of P2 and of E6 to E8, by word index (bus, device, function, offset / 4). -/
def table : ConfigSpace :=
  [(512, 0xFFFFFFFF), (1536, 0x0B008086), (1538, 0x06040000), (1539, 0x00010000), (1542, 0x00010100),
   (2052, 0xE0000004), (2053, 0x00000002), (2057, 0x0000000C), (16386, 0x0C033000)]

/-- An idle engine about to accept one command, the platform holding `table`. -/
def host (w : Word64) : State := { State.reset with cfg := table, commands := [w] }

/-- The two devices of P2. -/
def bridge : Device := ⟨0, 3, 0, 0x01, ⟨0x06, 0x04, 0x00⟩⟩
def ordinary : Device := ⟨1, 0, 0, 0x00, ⟨0x0C, 0x03, 0x30⟩⟩

/-- `host` with the registry P2 ends with. -/
def scanned (w : Word64) : State :=
  { host w with regCount := 2, regEntry := (State.reset.regEntry.set 0 bridge).set 1 ordinary }

/-- A busy engine with the given activations and return latch. -/
def busy (cursor : List Activation) (ret : Option Returned) : State :=
  { host 0x0E00000000000000 with run := .busy, cursor := cursor, ret := ret }

def responsesAfter (s : State) : Option (List (Kind × Word64)) :=
  (after (step s)).map fun t => t.responses.map fun r => (r.kind, r.value)
def kindsAfter (s : State) : Option (List Kind) := (after (step s)).map fun t => t.responses.map (·.kind)
def traceAfter (s : State) : Option (List Event) := (after (step s)).map (·.trace)

/-- V-ENC row 3. -/
theorem test_encode_max : responsesAfter (host 0x01FFFFFF00000000) = some [(.success, 0x80FFFFFC)] := by decide
/-- V-ENC row 5: a misaligned offset; no trace event. -/
theorem test_encode_misaligned : responsesAfter (host 0x0112550E00000000) = some [(.success, 0x8012550C)] ∧
    traceAfter (host 0x0112550E00000000) = some [] := by decide
/-- V-PORT row 13. -/
theorem test_wraddr : traceAfter (host 0x0200000080001808) = some [.wa 0x80001808] ∧
    (after (step (host 0x0200000080001808))).map (·.cfgAddr) = some 0x80001808 := by decide
/-- V-PORT row 14. -/
theorem test_rddata : responsesAfter { host 0x0300000000000000 with cfgAddr := 0x80001808 } =
    some [(.success, 0x06040000)] := by decide
/-- V-PORT row 15. -/
theorem test_wrdata : traceAfter { host 0x0400000000000006 with cfgAddr := 0x80002004 } = some [.wd 6] := by decide
/-- V-PORT row 9: the low 2 bits of the offset are dropped. -/
theorem test_cfgrd : responsesAfter (host 0x0501000A00000000) = some [(.success, 0x0C033000)] ∧
    traceAfter (host 0x0501000A00000000) = some [.wa 0x80010008, .rd 0x0C033000] := by decide
/-- V-PORT row 12. -/
theorem test_cfgwr : traceAfter (host 0x0600FFFFDEADBEEF) = some [.wa 0x8000FFFC, .wd 0xDEADBEEF] ∧
    responsesAfter (host 0x0600FFFFDEADBEEF) = some [(.success, 0)] := by decide
/-- V-PORT row 1. -/
theorem test_rdvendor : responsesAfter (host 0x0700180000000000) = some [(.success, 0x8086)] ∧
    traceAfter (host 0x0700180000000000) = some [.wa 0x80001800, .rd 0x0B008086] := by decide
/-- V-PORT row 16: only bits 15:0 are compared. -/
theorem test_rdvendor_low_half :
    responsesAfter { host 0x0700180000000000 with cfg := [(1536, 0x1234FFFF)] } = some [(.success, 0xFFFF)] := by
  decide
/-- V-PORT row 2. -/
theorem test_rddevid : responsesAfter (host 0x0800180000000000) = some [(.success, 0x0B00)] := by decide
/-- V-PORT row 20. -/
theorem test_rdhdr : responsesAfter { host 0x0900180000000000 with cfg := [(1539, 0xFF80FFFF)] } =
    some [(.success, 0x80)] := by decide
/-- V-PORT row 23. -/
theorem test_rdclass : responsesAfter { host 0x0A00180000000000 with cfg := [(1538, 0x0C033001)] } =
    some [(.success, 0x0C033000)] := by decide
/-- V-PORT row 5. -/
theorem test_rdbusnum : responsesAfter (host 0x0B00180000000000) = some [(.success, 0x00010100)] := by decide
/-- E7. -/
theorem test_rdbar_pair : responsesAfter (host 0x0C00200000000000) = some [(.success, 0x00000002E0000004)] ∧
    traceAfter (host 0x0C00200000000000) =
      some [.wa 0x80002010, .rd 0xE0000004, .wa 0x80002014, .rd 0x00000002] := by decide
/-- E8. -/
theorem test_rdbar_no_upper : kindsAfter (host 0x0C00200500000000) = some [.indexOutOfRange] ∧
    traceAfter (host 0x0C00200500000000) = some [.wa 0x80002024, .rd 0x0000000C] := by decide
/-- R160, R32: accepted, Busy, no response yet. -/
theorem test_scanall : (after (step (host 0x0D00000000000000))).map (fun t => (t.run, t.cursor)) =
    some (.busy, [.scanAll .start 1]) := by decide
/-- R160's first line: the registry is emptied before any port transaction. -/
theorem test_scanall_resets :
    (after (step { busy [.scanAll .start 1] none with regCount := 17 })).map (fun t => (t.regCount, t.trace)) =
    some (0, []) := by decide
/-- V-CMD row 10. -/
theorem test_regcnt : responsesAfter (scanned 0x0EFFFFFFFFFFFFFF) = some [(.success, 2)] := by decide
/-- V-REG row 5. -/
theorem test_regrd : responsesAfter (scanned 0x0F00000000000000) = some [(.success, 0x0000180106040000)] := by
  decide
/-- V-REG row 7. -/
theorem test_regrd_beyond : kindsAfter (scanned 0x0F00000200000000) = some [.indexOutOfRange] := by decide
/-- V-REG row 14. -/
theorem test_regreset :
    (after (exec .regreset { busy [.scanAll .start 1] none with regCount := 17 })).map (·.regCount) = some 0 := by
  decide
/-- V-REG row 9: the 32nd add succeeds. -/
theorem test_regadd_last :
    (after (exec (.regadd ordinary) { busy [.scanAll .start 1] none with regCount := 31 })).map
      (fun t => (t.regCount, t.regEntry[31], t.ret)) = some (32, ordinary, some (.value 0)) := by decide
/-- V-REG row 10: the 33rd does not. -/
theorem test_regadd_full :
    (after (exec (.regadd bridge) { busy [.scanAll .start 1] none with regCount := 32 })).map
      (fun t => (t.regCount, t.regEntry[31], t.ret)) = some (32, Device.zero, some (.failed .full)) := by decide
/-- R161's first line. -/
theorem test_scanbus : nextAction (.scanBus .start 1 0) none = .issue (.rdvendor 1 0 0) (.scanBus .vendor 1 0) := by
  decide
/-- R162's first line. -/
theorem test_scandev : nextAction (.scanDev .start 1 2 1) none =
    .issue (.scanfn 1 2 0) (.scanDev .first 1 2 1) := by decide
/-- R163: the secondary bus is bits 15:8 of the bus-numbers word (P2: 0x00010100 names bus 1). -/
theorem test_scanfn : nextAction (.scanFn .busNumbers 0 3 0 1 ⟨6, 4, 0⟩) (some (.value 0x00010100)) =
    .issue (.scanbus 1) (.scanFn .below 0 3 0 1 ⟨6, 4, 0⟩) := by decide
/-- V-REG rows 16, 17. -/
theorem test_ccmatch1 : matchBase ⟨0x0C, 0x03, 0x30⟩ 0x0C = true ∧ matchBase ⟨0x0C, 0x03, 0x30⟩ 0x06 = false := by
  decide
/-- R145's examples. -/
theorem test_ccmatch2 : matchBaseSub ⟨6, 4, 1⟩ 6 4 = true ∧ matchBaseSub ⟨6, 0, 0⟩ 6 4 = false := by decide
/-- R146's examples. -/
theorem test_ccmatch3 : matchAll ⟨0x0C, 0x03, 0x30⟩ 0x0C 0x03 0x30 = true ∧
    matchAll ⟨0x0C, 0x03, 0x20⟩ 0x0C 0x03 0x30 = false := by decide
/-- R147's examples. -/
theorem test_issingle : [0x00, 0x01, 0x7F, 0x80, 0x81, 0xFF].map isSingle =
    [true, true, true, false, false, false] := by decide
/-- R32: accepting RDVENDOR makes the engine Busy, and it is Idle as its response is delivered. -/
theorem test_busy_then_idle : ((host 0x0700180000000000).takeCommand []).run = .busy ∧
    (after (step (host 0x0700180000000000))).map (fun t => (t.run, t.responses.length)) = some (.idle, 1) := by
  decide
/-- V-CMD rows 3, 5, 9: turned away, the registry as it was. -/
theorem test_bad_command : kindsAfter (scanned 0x7FFFFFFFFFFFFFFF) = some [.badCommand] ∧
    (after (step (scanned 0x8100180106040000))).map (·.regCount) = some 2 ∧
    kindsAfter (scanned 0xFFFFFFFFFFFFFFFF) = some [.badCommand] := by decide

/-! ## Witnesses: states and operands that meet the hypotheses of each obligation, together -/

theorem witness_DecodeOfEncodeIsTheInstruction :
    (Instr.cfgwr 255 31 7 0xFF 0xFFFFFFFF).wellFormed = true ∧ Instr.regreset.wellFormed = true ∧
    (Instr.issingle 0).wellFormed = true := by decide
theorem witness_DecodedInstructionHasTheOpcode :
    decode 0x01FFFFFF00000000 = .command (.encodeAddr 255 31 7 0xFF) ∧
    decode 0x8800000000000000 = .command (.issingle 0) := by decide

/-- Two RDVENDOR words that differ in `arg` and `data`, two REGCNT words that differ everywhere below `op`, two
REGRD words that differ in all but `arg`. -/
theorem witness_UnusedFieldsDoNotChangeDecoding :
    [(0x0700180000000000, 0x070018FFFFFFFFFF), (0x0E00000000000000, 0x0EFFFFFFFFFFFFFF),
     (0x0F00000100000000, 0x0FABCD01FFFFFFFF)].all (fun p : Word64 × Word64 =>
      let w := p.1
      let w' := p.2
      decide (opField w = opField w' ∧
        (opField w ∈ ([0x01, 0x05, 0x06, 0x07, 0x08, 0x09, 0x0A, 0x0B, 0x0C] : List Byte) →
          busField w = busField w' ∧ devField w = devField w' ∧ fnField w = fnField w') ∧
        (opField w ∈ ([0x01, 0x05, 0x06, 0x0C, 0x0F] : List Byte) → argField w = argField w') ∧
        (opField w ∈ ([0x02, 0x04, 0x06] : List Byte) → dataField w = dataField w'))) = true := by decide

theorem witness_StepRunsTheDecodedCommand :
    (host 0x0700180000000000).run = .idle ∧ (host 0x0700180000000000).commands = [0x0700180000000000] ∧
    decode 0x0700180000000000 = .command (.rdvendor 0 3 0) ∧ (Instr.rdvendor 0 3 0).wellFormed = true := by decide
theorem witness_BusyStepRunsTheIssuedOperation :
    (busy [.scanAll .start 1] none).run = .busy ∧
    (busy [.scanAll .start 1] none).cursor = [.scanAll .start 1] ∧
    nextAction (.scanAll .start 1) (busy [.scanAll .start 1] none).ret =
      .issue .regreset (.scanAll .reset 1) := by decide

/-- The boundaries of the two ranges: 0x00, 0x10, 0xFF, and the internal codes 0x80 and 0x88 in between. -/
theorem witness_StepTurnsAwayIllegalAndInternalWords :
    [0x0000000000000000, 0x1000000000000000, 0x8000000000000000, 0x8800000000000000, 0xFFFFFFFFFFFFFFFF].all
      (fun w : Word64 => decide ((host w).run = .idle ∧ (host w).commands = [w] ∧
        (opField w = 0x00 ∨ 0x10 ≤ (opField w).toNat))) = true := by decide
theorem witness_InternalOperationsAreClosedToTheHost :
    State.reset.cursor = [] ∧ Instr.regreset.isHost = false ∧ (Instr.issingle 0x80).isHost = false := by decide
theorem witness_IdleEngineWaitsForACommand : State.reset.run = .idle ∧ State.reset.commands = [] := by decide

/-- The scan of P2 in the middle of SCANFN of the bridge, which has just been added. -/
def atBridge : State :=
  { busy [.scanFn .add 0 3 0 0x01 ⟨6, 4, 0⟩, .scanDev .first 0 3 1, .scanBus .device 0 3, .scanAll .root 1]
      (some (.value 0)) with regCount := 1, regEntry := State.reset.regEntry.set 0 bridge }

/-- The same place with a full registry. -/
def atFull : State := { atBridge with regCount := 32, ret := some (.failed .full) }

/-- The end of a failed scan. -/
def atEnd : State := { busy [.scanAll .root 1] (some (.failed .full)) with regCount := 32 }

theorem witness_BusyEngineAcceptsNoCommand :
    atBridge.run = .busy ∧ atBridge.commands ≠ [] ∧ ∃ t, step atBridge = .next t :=
  ⟨by decide, by decide, _, rfl⟩
theorem witness_OneResponsePerCommand :
    (host 0x0700180000000000).run = .idle ∧ (host 0x0700180000000000).commands = [0x0700180000000000] ∧
    opField 0x0700180000000000 ≠ 0x0D ∧ ∃ t, step (host 0x0700180000000000) = .next t :=
  ⟨by decide, by decide, by decide, _, rfl⟩
theorem witness_ReturnsGoToTheHostOrTheCallingRule : State.reset.cursor = [] ∧ atBridge.cursor ≠ [] := by decide
theorem witness_AddressWordsAreTheSelectingWords : selects 0x80FFFFFC = true ∧ selects 0x80000000 = true := by
  decide
theorem witness_LowOffsetBitsAreDropped :
    (0x0C : Byte).toNat / 4 = (0x0F : Byte).toNat / 4 ∧ (0xFC : Byte).toNat / 4 = (0xFF : Byte).toNat / 4 := by
  decide

theorem witness_WraddrSetsTheLatch : (host 0x0200000080001808).external = [] := by decide
theorem witness_RddataReadsWhatTheLatchSelects : (host 0x0300000000000000).external = [] := by decide

/-- The clause on the word written, and the clause on another word, the next one. -/
theorem witness_WrdataPresentsToWhatTheLatchSelects :
    let s : State := { host 0x0400000000000006 with cfgAddr := 0x80001808 }
    s.external = [] ∧ selects s.cfgAddr = true ∧ wordIndex s.cfgAddr = 1538 ∧
    ¬ (selects s.cfgAddr = true ∧ 1539 = wordIndex s.cfgAddr) := by decide
theorem witness_CfgrdReadsTheWholeWord : (host 0x0501000A00000000).external = [] := by decide
theorem witness_CfgwrWritesOneWord :
    (host 0x0600FFFFDEADBEEF).external = [] ∧ 16382 ≠ wordIndex (encodeAddress 0 31 7 0xFF) := by decide
theorem witness_FieldReadersReturnTheirBits : (host 0x0700180000000000).external = [] := by decide
theorem witness_UnselectingLatchReadsADrawAndWritesNothing :
    [0x00001808, 0x81001808, 0x80001809].all
      (fun a : Word => decide (({ State.reset with cfgAddr := a } : State).external = [] ∧ selects a = false)) =
      true := by decide
theorem witness_InterleavedAddressWriteMisdirectsTheAccess :
    ({ host 0x0501000800000000 with external := [[], [.writeAddr 0x80001808]] } : State).external =
      [] :: [.writeAddr 0x80001808] :: [] := by decide
theorem witness_RawReadAfterCfgrdReadsCfgrdsWord :
    let s : State := { host 0 with commands := [0x0200000080000000, 0x0500180800000000, 0x0300000000000000] }
    s.run = .idle ∧ s.external = [] ∧
    s.commands = 0x0200000080000000 :: 0x0500180800000000 :: 0x0300000000000000 :: [] ∧
    decode 0x0200000080000000 = .command (.wraddr 0x80000000) ∧
    decode 0x0500180800000000 = .command (.cfgrd 0 3 0 0x08) ∧ decode 0x0300000000000000 = .command .rddata ∧
    s.fixedWord (encodeAddress 0 3 0 0x08) = some 0x06040000 := by decide
theorem witness_LatchHoldsTheLastAddressWritten :
    ({ State.reset with trace := [.wa 5, .rd 7], cfgAddr := 5 } : State).latchIsLast ∧
    ∃ t, step { State.reset with trace := [.wa 5, .rd 7], cfgAddr := 5 } = .next t :=
  ⟨⟨rfl, fun _ h => Option.some.inj h⟩, _, rfl⟩
theorem witness_EveryStepButRawCommandsKeepsPortDiscipline :
    portDiscipline [.wa 5, .rd 7] = true ∧
    (∀ w rest, ({ host 0x0C00200000000000 with trace := [.wa 5, .rd 7] } : State).commands = w :: rest →
      opField w ≠ 0x02 ∧ opField w ≠ 0x03 ∧ opField w ≠ 0x04) ∧
    ∃ t, step { host 0x0C00200000000000 with trace := [.wa 5, .rd 7] } = .next t :=
  ⟨by decide, fun w rest h => by obtain ⟨rfl, -⟩ := List.cons.inj h; decide, _, rfl⟩
theorem witness_TraceOnlyGrows : ∃ t, step (host 0x0C00200000000000) = .next t := ⟨_, rfl⟩

/-- Both alternatives, with a trace that already holds a WD. -/
theorem witness_ScannerAndBarResolverOnlyRead :
    (∃ t, step { atBridge with trace := [.wa 5, .wd 7] } = .next t ∧ atBridge.run = .busy ∧
      atBridge.external = []) ∧
    (∃ t, step { host 0x0C00200000000000 with trace := [.wa 5, .wd 7] } = .next t ∧
      (host 0x0C00200000000000).run = .idle ∧ (host 0x0C00200000000000).commands = [0x0C00200000000000] ∧
      opField 0x0C00200000000000 = 0x0C ∧ (host 0x0C00200000000000).external = []) :=
  ⟨⟨_, rfl, rfl, rfl⟩, _, rfl, rfl, rfl, by decide, rfl⟩

/-- Each clause at its boundaries: indices 6 and 255; 0 and 5 with bit 2 clear; 5 with bit 2 set; 0 and 4 with
bit 2 set. The words are those at the BARs of 0:4.0 and 0:5.0. -/
theorem witness_RdbarFollowsItsFourSteps :
    let s : State := { State.reset with
      cfg := [(2052, 0xE0000004), (2056, 0x00000004), (2057, 0x0000000C), (2564, 0xF0000008), (2569, 0)] }
    s.external = [] ∧
    6 ≤ (6 : Byte).toNat ∧ 6 ≤ (255 : Byte).toNat ∧
    (s.answerAt 0 (encodeAddress 0 5 0 (0x10 + 4 * 0))).getLsbD 2 = false ∧
    (s.answerAt 0 (encodeAddress 0 5 0 (0x10 + 4 * 5))).getLsbD 2 = false ∧
    (s.answerAt 0 (encodeAddress 0 4 0 (0x10 + 4 * 5))).getLsbD 2 = true ∧
    (s.answerAt 0 (encodeAddress 0 4 0 (0x10 + 4 * 0))).getLsbD 2 = true ∧
    (s.answerAt 0 (encodeAddress 0 4 0 (0x10 + 4 * 4))).getLsbD 2 = true := by decide

theorem witness_RegresetClearsOnlyTheCount :
    atBridge.cursor ≠ [] ∧ State.reset.cursor = [] ∧
    nextAction (.scanAll .start 1) none = .issue .regreset (.scanAll .reset 1) := by decide
theorem witness_RegaddAppendsOrIsFull :
    (atFull.cursor ≠ [] ∧ atFull.regCount = 32) ∧
    (let s : State := { atFull with regCount := 31 }
     s.cursor ≠ [] ∧ s.regCount.toNat < 32) ∧
    (let s : State := { atFull with regCount := 0 }
     s.cursor ≠ [] ∧ s.regCount.toNat < 32) ∧
    State.reset.cursor = [] ∧
    nextAction (.scanFn .header 0 3 0 0 ⟨6, 4, 0⟩) (some (.value 1)) =
      .issue (.regadd bridge) (.scanFn .add 0 3 0 1 ⟨6, 4, 0⟩) := by decide
theorem witness_RegrdReturnsThePackedEntry :
    (scanned 0x0F00000000000000).regCount.toNat ≤ 32 ∧
    (scanned 0x0F00000000000000).entries[(0 : Byte).toNat]? = some bridge ∧
    (scanned 0x0F00000100000000).entries[(1 : Byte).toNat]? = some ordinary ∧
    atFull.regCount.toNat ≤ 32 ∧ atFull.entries[(31 : Byte).toNat]? = some Device.zero := by decide
theorem witness_RegrdRefusesAnIndexBeyondTheCount :
    (scanned 0x0F00000200000000).regCount.toNat ≤ (2 : Byte).toNat ∧
    (scanned 0x0F0000FF00000000).regCount.toNat ≤ (255 : Byte).toNat ∧
    State.reset.regCount.toNat ≤ (0 : Byte).toNat := by decide
theorem witness_ClassCodePredicatesCompareTheFieldsSupplied : atBridge.cursor ≠ [] := by decide
theorem witness_IssingleTestsBitSevenAlone :
    atBridge.cursor ≠ [] ∧ (0x7F : Byte).toNat < 0x80 ∧ ¬ (0x80 : Byte).toNat < 0x80 := by decide
theorem witness_RegistryChangesOnlyWhileAScanRuns :
    (host 0x8000000000000000).run = .idle ∧ ∃ t, step (host 0x8000000000000000) = .next t := ⟨rfl, _, rfl⟩

/-- The invariant at the start of a scan, in its middle, at its failure, and idle with a registry. -/
theorem inv_atStart : (busy [.scanAll .start 1] none).Inv := by
  refine ⟨by decide, by decide, ?_⟩
  show _ ∧ _ ∧ _ ∧ _
  decide
theorem inv_atBridge : atBridge.Inv := by
  refine ⟨by decide, by decide, ?_⟩
  show _ ∧ _ ∧ _ ∧ _
  decide
theorem inv_atFull : atFull.Inv := by
  refine ⟨by decide, by decide, ?_⟩
  show _ ∧ _ ∧ _ ∧ _
  decide
theorem inv_atEnd : atEnd.Inv := by
  refine ⟨by decide, by decide, ?_⟩
  show _ ∧ _ ∧ _ ∧ _
  decide
theorem inv_scanned : (scanned 0x0F00000000000000).Inv := ⟨by decide, by decide, rfl, rfl⟩

theorem witness_RegistryIsAppendOnlyButForItsReset :
    (atBridge.Inv ∧ ∃ t, step atBridge = .next t) ∧
    ((busy [.scanAll .start 1] none).Inv ∧ ∃ t, step (busy [.scanAll .start 1] none) = .next t) :=
  ⟨⟨inv_atBridge, _, rfl⟩, inv_atStart, _, rfl⟩
theorem witness_ScanallStartsByEmptyingTheRegistry : ((host 0x0D00000000000000).takeCommand []).cursor = [] := by
  decide
theorem witness_ScannerProceduresBecomeInnermost : atBridge.cursor ≠ [] := by decide

theorem witness_ScanbusRunsAsTheRecursion :
    (busy [.scanAll .root 1] none).run = .busy ∧ (busy [.scanAll .root 1] none).cursor ≠ [] ∧
    (busy [.scanAll .root 1] none).regCount.toNat ≤ 32 := by decide
theorem witness_ScandevRunsAsTheRecursion :
    atBridge.run = .busy ∧ atBridge.cursor ≠ [] ∧ atBridge.regCount.toNat ≤ 32 := by decide

/-- With a full registry. -/
theorem witness_ScanfnRunsAsTheRecursion :
    atFull.run = .busy ∧ atFull.cursor ≠ [] ∧ atFull.regCount.toNat ≤ 32 := by decide
theorem witness_ScanallRunsAsTheRecursion :
    (host 0x0D00000000000000).run = .idle ∧ (host 0x0D00000000000000).commands = [0x0D00000000000000] ∧
    opField 0x0D00000000000000 = 0x0D := by decide

/-- With every unused bit set. -/
theorem witness_EveryScanEndsWithinItsBound :
    (host 0x0DFFFFFFFFFFFFFF).run = .idle ∧ (host 0x0DFFFFFFFFFFFFFF).commands = [0x0DFFFFFFFFFFFFFF] ∧
    opField 0x0DFFFFFFFFFFFFFF = 0x0D := by decide

/-- A platform whose 0:0.0 is multi-function and whose 0:0.1 to 0:0.7 are absent (R160 corner case (d)). -/
def emptyRoot : State :=
  { State.reset with
    cfg := (3, 0x00800000) :: [64, 128, 192, 256, 320, 384, 448].map fun k => (k, 0xFFFFFFFF)
    commands := [0x0D00000000000000] }
def emptyRead (a : Word) : Word := if a = 0x8000000C then 0x00800000 else 0xFFFFFFFF
def emptyTrace : List Event :=
  [.wa 0x8000000C, .rd 0x00800000, .wa 0x80000100, .rd 0xFFFFFFFF, .wa 0x80000200, .rd 0xFFFFFFFF,
   .wa 0x80000300, .rd 0xFFFFFFFF, .wa 0x80000400, .rd 0xFFFFFFFF, .wa 0x80000500, .rd 0xFFFFFFFF,
   .wa 0x80000600, .rd 0xFFFFFFFF, .wa 0x80000700, .rd 0xFFFFFFFF]

/-- R160 corner case (d): such a scan ends with Success after 8 round trips (V-SCAN row 3), in 12 steps. -/
theorem witness_ScansOfAnUnchangedModelAgree :
    emptyRoot.run = .idle ∧ emptyRoot.commands = [0x0D00000000000000] ∧ opField 0x0D00000000000000 = 0x0D ∧
    ∃ t, Host.Core.run Sys2Proof.core 12 emptyRoot = .next t ∧ t.run = .idle ∧ t.commands = [] ∧
      t.trace = emptyRoot.trace ++ emptyTrace ∧ t.responses = emptyRoot.responses ++ [⟨.success, 0⟩] ∧
      consistentWith emptyRead emptyTrace := by
  refine ⟨by decide, by decide, by decide, _, rfl, by decide, by decide, by decide, by decide, ?_⟩
  simp [consistentWith, emptyTrace, emptyRead]

/-- Device 31 and an earlier one absent, and device 31 present (V-PORT rows 16, 17). -/
theorem witness_AbsentDevicesAreSkipped :
    (31 : Nat) ≤ 31 ∧ (30 : Nat) ≤ 31 ∧ ¬ (0x1234FFFF : Word).extractLsb' 0 16 ≠ 0xFFFF ∧
    (0xFFFF8086 : Word).extractLsb' 0 16 ≠ 0xFFFF := by decide
theorem witness_SingleFunctionDeviceIsNotProbedFurther :
    let s := busy [.scanDev .header 0 3 1, .scanBus .device 0 3, .scanAll .root 1]
      (some (.value ((0x7F : Byte).setWidth 64)))
    s.run = .busy ∧ s.cursor = [.scanDev .header 0 3 1, .scanBus .device 0 3, .scanAll .root 1] ∧
    s.ret = some (.value ((0x7F : Byte).setWidth 64)) ∧ (0x7F : Byte).getLsbD 7 = false := by decide

/-- The scan of P2 after the entry of 1:0.0, which is no bridge (class 0x0C/0x03), has been added. -/
def atOrdinary : State :=
  { busy [.scanFn .add 1 0 0 0x00 ⟨0x0C, 0x03, 0x30⟩, .scanDev .first 1 0 1, .scanBus .device 1 0,
      .scanFn .below 0 3 0 0x01 ⟨6, 4, 0⟩, .scanDev .first 0 3 1, .scanBus .device 0 3, .scanAll .root 1]
      (some (.value 0)) with
    regCount := 2, regEntry := (State.reset.regEntry.set 0 bridge).set 1 ordinary }

/-- A bridge, and a function that is none. -/
theorem witness_BridgeIsDescendedIntoAfterItsEntry :
    atOrdinary.run = .busy ∧ atOrdinary.external = [] ∧
    atOrdinary.cursor = .scanFn .add 1 0 0 0x00 ⟨0x0C, 0x03, 0x30⟩ :: .scanDev .first 1 0 1 ::
      [.scanBus .device 1 0, .scanFn .below 0 3 0 0x01 ⟨6, 4, 0⟩, .scanDev .first 0 3 1, .scanBus .device 0 3,
       .scanAll .root 1] ∧
    atOrdinary.ret = some (.value 0) ∧ ¬ ((0x0C : Byte) = 0x06 ∧ (0x03 : Byte) = 0x04) ∧
    atBridge.run = .busy ∧ atBridge.external = [] ∧
    atBridge.cursor = .scanFn .add 0 3 0 0x01 ⟨6, 4, 0⟩ :: .scanDev .first 0 3 1 ::
      [.scanBus .device 0 3, .scanAll .root 1] ∧
    atBridge.ret = some (.value 0) ∧ ((6 : Byte) = 0x06 ∧ (4 : Byte) = 0x04) := by decide
theorem witness_MultiFunctionRootNeverScansBusZero :
    (1 ≤ 1 ∧ 1 ≤ 7) ∧ (1 ≤ 7 ∧ 7 ≤ 7) ∧ (0x8086 : BitVec 16) ≠ 0xFFFF ∧
    nextAction (.scanAll .vendor 1) (some (.value 0x8086)) = .issue (.scanbus 1) (.scanAll .segment 1) ∧
    nextAction (.scanAll .vendor 7) (some (.value 0x8086)) = .issue (.scanbus 7) (.scanAll .segment 7) := by decide
theorem witness_FailurePropagatesUnchanged :
    atFull.Inv ∧ atFull.run = .busy ∧ atFull.ret = some (.failed .full) := ⟨inv_atFull, rfl, rfl⟩
theorem witness_FullIsAnsweredOnlyWithAFullRegistry :
    atEnd.Inv ∧ ∃ t, step atEnd = .next t ∧ ∃ r, t.responses = atEnd.responses ++ [r] ∧ r.kind = .full :=
  ⟨inv_atEnd, _, rfl, _, rfl, rfl⟩
theorem witness_EveryStepKeepsTheInvariant : atBridge.Inv ∧ ∃ t, step atBridge = .next t := ⟨inv_atBridge, _, rfl⟩

theorem witness_EngineNeverStops : atFull.Inv ∧ (scanned 0x0F00000000000000).Inv := ⟨inv_atFull, inv_scanned⟩
theorem witness_AtMostThirtyThreeScanbusActivations : atBridge.Inv ∧ busDepth atBridge.cursor = 1 :=
  ⟨inv_atBridge, by decide⟩

end Sys2Proof.Tests
end

/-! ## The word an offset selects (spec/20_memory.md R51)

The address codec is the one place where an offset enters an operation, and it reads the offset's bits 7:2 only. -/

section

namespace Sys2Proof.Machine

/-- The word index of an offset is its bits 7:2 (R51). -/
theorem extractLsb'_eq_of_div_four_eq {o o' : Byte} (h : o.toNat / 4 = o'.toNat / 4) :
    o.extractLsb' 2 6 = o'.extractLsb' 2 6 := by
  apply BitVec.eq_of_toNat_eq
  simp only [BitVec.extractLsb'_toNat, Nat.shiftRight_eq_div_pow, Nat.reducePow, h]

/-- Offsets of one word have one address word (R51, R110). -/
theorem encodeAddress_eq_of_div_four_eq (bus : BusNo) (dev : DevNo) (fn : FnNo) {o o' : Byte}
    (h : o.toNat / 4 = o'.toNat / 4) : encodeAddress bus dev fn o = encodeAddress bus dev fn o' := by
  unfold encodeAddress
  rw [extractLsb'_eq_of_div_four_eq h]

/-- The meaning of ENCODE (R110). -/
theorem exec_encodeAddr (bus : BusNo) (dev : DevNo) (fn : FnNo) (o : Byte) (s : State) :
    exec (.encodeAddr bus dev fn o) s =
      .next (s.deliver (.value ((encodeAddress bus dev fn o).setWidth 64))) := rfl

/-- CFGRD is a data-port read after a write of the encoded address (R123). -/
theorem exec_cfgrd (bus : BusNo) (dev : DevNo) (fn : FnNo) (o : Byte) (s : State) :
    exec (.cfgrd bus dev fn o) s =
      .next ((s.ioWriteAddr (encodeAddress bus dev fn o)).ioReadData.2.deliver
        (.value ((s.ioWriteAddr (encodeAddress bus dev fn o)).ioReadData.1.setWidth 64))) := rfl

/-- CFGWR is a data-port write after a write of the encoded address (R124). -/
theorem exec_cfgwr (bus : BusNo) (dev : DevNo) (fn : FnNo) (o : Byte) (v : Word) (s : State) :
    exec (.cfgwr bus dev fn o v) s =
      .next (((s.ioWriteAddr (encodeAddress bus dev fn o)).ioWriteData v).deliver (.value 0)) := rfl

/-- Settles O17: the three operations use an offset through its address word only. -/
theorem lowOffsetBitsAreDropped : Obligations.LowOffsetBitsAreDropped := by
  intro s bus dev fn o o' v h
  have ha : encodeAddress bus dev fn o = encodeAddress bus dev fn o' :=
    encodeAddress_eq_of_div_four_eq bus dev fn h
  refine ⟨exec_isNext _ s, exec_isNext _ s, exec_isNext _ s, ?encode, ?read, ?write⟩
  case encode => rw [exec_encodeAddr, exec_encodeAddr, ha]
  case read => rw [exec_cfgrd, exec_cfgrd, ha]
  case write => rw [exec_cfgwr, exec_cfgwr, ha]

end Sys2Proof.Machine
end

/-! ## The buses SCANALL scans (spec/30_encoding.md R90, spec/43_scanner.md R160)

On the multi-function path SCANBUS is called at one place, after RDVENDOR of 0:0.f found the function present, and
its bus number is the function index, zero-extended. -/

section

namespace Sys2Proof.Machine

/-- R90's `zext_8(f)`: a 3-bit function index keeps its value as a bus number. -/
theorem functionAsBus_toNat {f : Nat} (h : f < 8) : (functionAsBus f).toNat = f := by
  have h3 : (BitVec.ofNat 3 f).toNat = f := by rw [BitVec.toNat_ofNat, Nat.mod_eq_of_lt h]
  rw [functionAsBus, BitVec.toNat_setWidth_of_le (by decide), h3]

/-- Bus 0 is function index 0's (R90). -/
theorem functionAsBus_ne_zero {f : Nat} (h1 : 1 ≤ f) (h8 : f < 8) : functionAsBus f ≠ 0 := by
  intro h0
  have hf : (functionAsBus f).toNat = f := functionAsBus_toNat h8
  rw [h0, BitVec.ofNat_eq_ofNat, BitVec.toNat_ofNat, Nat.zero_mod] at hf
  omega

/-- Of the 16-bit vendor ids only 0xFFFF means absence (R125). -/
theorem isAbsent_setWidth_iff (v : BitVec 16) : isAbsent (v.setWidth 64) = true ↔ v = 0xFFFF := by
  rw [isAbsent, beq_iff_eq, ← BitVec.toNat_inj, ← BitVec.toNat_inj,
    BitVec.toNat_setWidth_of_le (by decide), BitVec.toNat_setWidth_of_le (by decide)]

/-- An activation that waits for a value issues an operation only once the value is there. -/
theorem onValue_eq_issue {ret : Option Returned} {goOn : Word64 → Action} {i : Instr} {a : Activation}
    (h : onValue ret goOn = .issue i a) : ∃ v, ret = some (.value v) ∧ goOn v = .issue i a := by
  rcases ret with _ | (v | _ | _ | _)
  case some.value => exact ⟨v, rfl, h⟩
  all_goals nomatch h

/-- An activation that waits for a procedure issues an operation only after a success (R164). -/
theorem onReturn_eq_issue {ret : Option Returned} {goOn : Action} {i : Instr} {a : Activation}
    (h : onReturn ret goOn = .issue i a) : goOn = .issue i a := by
  rcases ret with _ | (_ | _ | _ | _)
  case some.value => exact h
  all_goals nomatch h

/-- SCANALL's loop tests each function with RDVENDOR before it can scan a bus (R160). -/
theorem nextRoot_ne_scanbus (f : Nat) (bus : BusNo) (a : Activation) : nextRoot f ≠ .issue (.scanbus bus) a := by
  unfold nextRoot
  split
  · intro h
    injection h with hi
    cases hi
  · exact Action.noConfusion

/-- SCANALL's rule where the vendor id of 0:0.f has been read (R160). -/
theorem nextAction_scanAll_vendor (f : Nat) (ret : Option Returned) :
    nextAction (.scanAll .vendor f) ret = onValue ret fun v =>
      if isAbsent v then nextRoot (f + 1) else .issue (.scanbus (functionAsBus f)) (.scanAll .segment f) := rfl

/-- SCANALL's rule where the scan of a function's bus has returned (R160). -/
theorem nextAction_scanAll_segment (f : Nat) (ret : Option Returned) :
    nextAction (.scanAll .segment f) ret = onReturn ret (nextRoot (f + 1)) := rfl

/-- A present function of 0:0 has its bus scanned (R160). -/
theorem nextAction_scanAll_vendor_present (f : Nat) {v : BitVec 16} (hv : v ≠ 0xFFFF) :
    nextAction (.scanAll .vendor f) (some (.value (v.setWidth 64))) =
      .issue (.scanbus (functionAsBus f)) (.scanAll .segment f) := by
  have present : ¬ isAbsent (v.setWidth 64) = true := mt (isAbsent_setWidth_iff v).mp hv
  rw [nextAction_scanAll_vendor]
  exact if_neg present

/-- The only bus SCANALL scans after a vendor id is the function index's (R90). -/
theorem bus_eq_of_nextAction_scanAll_vendor {f : Nat} {ret : Option Returned} {bus : BusNo} {a : Activation}
    (h : nextAction (.scanAll .vendor f) ret = .issue (.scanbus bus) a) : bus = functionAsBus f := by
  obtain ⟨v, -, hv⟩ := onValue_eq_issue h
  split at hv
  · exact absurd hv (nextRoot_ne_scanbus _ _ _)
  · injection hv with hi
    injection hi with hbus
    exact hbus.symm

/-- Settles O53: the one SCANBUS of the multi-function path names the bus `zext_8(f)`, which is `f` and so not 0. -/
theorem multiFunctionRootNeverScansBusZero : Obligations.MultiFunctionRootNeverScansBusZero := by
  intro f h1 h7
  have h8 : f < 8 := by omega
  refine ⟨fun v hv => ⟨functionAsBus f, functionAsBus_toNat h8, nextAction_scanAll_vendor_present f hv⟩,
    fun ret bus a => ⟨fun h => ?vendor, fun h => ?segment⟩⟩
  case vendor =>
    rw [bus_eq_of_nextAction_scanAll_vendor h]
    exact ⟨functionAsBus_toNat h8, functionAsBus_ne_zero h1 h8⟩
  case segment =>
    rw [nextAction_scanAll_segment] at h
    exact nextRoot_ne_scanbus _ _ _ (onReturn_eq_issue h)

end Sys2Proof.Machine
end

/-! ## The address word as R110's formula (spec/40_address_codec.md R110)

The model concatenates the fields, the rule ors the shifted operands: a field appended on the right shifts what
stands before it. -/

section

namespace Sys2Proof.Machine

/-- To append a field is to shift by its width and or it in. -/
theorem setWidth_append_eq_shiftLeft_or {m n : Nat} (w : Nat) (x : BitVec m) (y : BitVec n) :
    (x ++ y).setWidth w = x.setWidth w <<< n ||| y.setWidth w := by
  ext i hi
  by_cases h : i < n
  · simp [BitVec.getLsbD_append, h]
  · have hy : y.getLsbD i = false := y.getLsbD_of_ge i (Nat.le_of_not_lt h)
    simp [BitVec.getLsbD_append, h, hy]

/-- The top 6 bits of an offset, its low 2 bits replaced by zeros, are its mask with 0xFC (R110). -/
theorem extractLsb'_append_zero_eq_and (o : Byte) : o.extractLsb' 2 6 ++ 0#2 = o &&& 0xFC#8 :=
  calc o.extractLsb' 2 6 ++ 0#2
      = (o.extractLsb' 2 6 &&& BitVec.allOnes 6) ++ (o.extractLsb' 0 2 &&& 0#2) := by
        rw [BitVec.and_allOnes, BitVec.and_zero]
    _ = (o.extractLsb' 2 6 ++ o.extractLsb' 0 2) &&& (BitVec.allOnes 6 ++ 0#2) := BitVec.and_append.symm
    _ = o &&& 0xFC#8 := by rw [BitVec.extractLsb'_append_extractLsb']; rfl

/-- The word index, put back in its place, is the offset without its low 2 bits (R110). -/
theorem extractLsb'_shiftLeft_eq_and (o : Byte) :
    (o.extractLsb' 2 6).setWidth 32 <<< 2 = (o &&& 0xFC#8).setWidth 32 := by
  rw [← extractLsb'_append_zero_eq_and, setWidth_append_eq_shiftLeft_or, BitVec.setWidth_zero, BitVec.or_zero]

/-- The address word is the or of its shifted fields (R110). -/
theorem encodeAddress_eq_or (bus : BusNo) (dev : DevNo) (fn : FnNo) (o : Byte) :
    encodeAddress bus dev fn o =
      0x80000000#32 ||| (bus.setWidth 32 <<< 16) ||| (dev.setWidth 32 <<< 11) ||| (fn.setWidth 32 <<< 8) |||
        (o &&& 0xFC#8).setWidth 32 := by
  have enable : (1#1 ++ 0#7).setWidth 32 <<< 24 = 0x80000000#32 := rfl
  calc encodeAddress bus dev fn o
      = (((((1#1 ++ 0#7).setWidth 32 <<< 8 ||| bus.setWidth 32) <<< 5 ||| dev.setWidth 32) <<< 3 |||
          fn.setWidth 32) <<< 6 ||| (o.extractLsb' 2 6).setWidth 32) <<< 2 := by
        rw [← BitVec.setWidth_eq (encodeAddress bus dev fn o), encodeAddress,
          setWidth_append_eq_shiftLeft_or 32 _ 0#2, BitVec.setWidth_zero, BitVec.or_zero,
          setWidth_append_eq_shiftLeft_or 32 _ (o.extractLsb' 2 6), setWidth_append_eq_shiftLeft_or 32 _ fn,
          setWidth_append_eq_shiftLeft_or 32 _ dev, setWidth_append_eq_shiftLeft_or 32 _ bus]
    _ = _ := by
        simp only [BitVec.shiftLeft_or_distrib, ← BitVec.shiftLeft_add, Nat.reduceAdd, enable,
          extractLsb'_shiftLeft_eq_and]

/-- Settles O15: the word ENCODE delivers is R110's formula. -/
theorem encodeReturnsTheAddressWord : Obligations.EncodeReturnsTheAddressWord := by
  intro s bus dev fn offset
  refine ⟨rfl, ?_⟩
  rw [exec_encodeAddr, encodeAddress_eq_or]

end Sys2Proof.Machine
end

/-! ## Writing the latch and reading through it (spec/41_config_port.md R120, R121, R123)

Under the premise of R227 a port transaction does what its rule in `Laws/Ops` says and no more, so an access is
that transaction, or that round trip, and the return of its value. -/

section

namespace Sys2Proof.Machine

/-- WRADDR is the write of the address port (R120). -/
theorem exec_wraddr (a : Word) (s : State) :
    exec (.wraddr a) s = .next ((s.ioWriteAddr a).deliver (.value 0)) := rfl

/-- RDDATA is the read of the data port, its word zero-extended (R121). -/
theorem exec_rddata (s : State) :
    exec .rddata s = .next (s.ioReadData.2.deliver (.value (s.ioReadData.1.setWidth 64))) := rfl

/-- Where no external agent acts, CFGRD is one round trip and the return of the whole word (R123). -/
theorem exec_cfgrd_of_nil (bus : BusNo) (dev : DevNo) (fn : FnNo) (o : Byte) (s : State) (h : s.external = []) :
    exec (.cfgrd bus dev fn o) s =
      .next ((s.afterRead (encodeAddress bus dev fn o)).deliver
        (.value ((s.answerAt s.draws (encodeAddress bus dev fn o)).setWidth 64))) := by
  rw [exec_cfgrd, ← State.readConfig, s.readConfig_of_nil bus dev fn o h]

/-- Settles O18: WRADDR's one transaction sets the latch and appends its event. -/
theorem wraddrSetsTheLatch : Obligations.WraddrSetsTheLatch := by
  intro s a h
  refine ⟨rfl, ?_⟩
  rw [exec_wraddr, s.ioWriteAddr_of_nil a h]

/-- Settles O19: RDDATA's one transaction answers for the latch as it stands. -/
theorem rddataReadsWhatTheLatchSelects : Obligations.RddataReadsWhatTheLatchSelects := by
  intro s h
  refine ⟨rfl, ?_⟩
  rw [exec_rddata, s.ioReadData_of_nil h]

/-- Settles O22: the state CFGRD returns from is `afterRead` at the encoded address. -/
theorem cfgrdReadsTheWholeWord : Obligations.CfgrdReadsTheWholeWord := by
  intro s bus dev fn offset h
  refine ⟨rfl, ?_⟩
  rw [exec_cfgrd_of_nil bus dev fn offset s h, State.afterRead]

end Sys2Proof.Machine
end

/-! ## The registry's predicates (spec/42_registry.md R144 to R147)

Each predicate is internal: the rule that issues it stands on the cursor, its boolean goes to `ret`, and the rest of
the state stays. What is left is which boolean: an equality of the fields supplied, or bit 7 as a bound. -/

section

namespace Sys2Proof.Machine

/-- CCMATCH1's test compares the base class alone (R144). -/
theorem matchBase_eq_decide (c : ClassCode) (b : Byte) : matchBase c b = decide (c.base = b) := beq_eq_decide _ _

/-- CCMATCH2's test adds the sub-class to CCMATCH1's (R145). -/
theorem matchBaseSub_eq_decide (c : ClassCode) (b u : Byte) :
    matchBaseSub c b u = decide (c.base = b ∧ c.sub = u) := by
  rw [matchBaseSub, beq_eq_decide, beq_eq_decide, Bool.decide_and]

/-- CCMATCH3's test adds the interface to CCMATCH2's (R146). -/
theorem matchAll_eq_decide (c : ClassCode) (b u i : Byte) :
    matchAll c b u i = decide (c.base = b ∧ c.sub = u ∧ c.interface = i) := by
  rw [matchAll, beq_eq_decide, beq_eq_decide, beq_eq_decide, Bool.decide_and, Bool.decide_and, Bool.and_assoc]

/-- Bit 7 is a byte's top bit, so it is 0 exactly below 0x80 (R147). -/
theorem isSingle_eq_decide (h : Byte) : isSingle h = decide (h.toNat < 0x80) := by
  have top : h.getLsbD Config.multiFnBit = decide (0x80 ≤ h.toNat) :=
    h.msb_eq_getLsbD_last.symm.trans h.msb_eq_decide
  rw [isSingle, top, ← decide_not, decide_eq_decide, Nat.not_le]

/-- An internal operation that only answers, issued by a rule, sets `ret` and nothing else (R31; log 3). -/
theorem State.internally_deliver_rule (s : State) (r : Returned) (h : s.cursor ≠ []) :
    s.internally (s.deliver r) = { s with ret := some r } := by
  rw [s.internally_rule _ h, s.deliver_rule r h]

/-- The meaning of CCMATCH1 (R144). -/
theorem exec_ccmatch1 (c : ClassCode) (b : Byte) (s : State) :
    exec (.ccmatch1 c b) s = .next (s.internally (s.deliver (.truth (matchBase c b)))) := rfl

/-- The meaning of CCMATCH2 (R145). -/
theorem exec_ccmatch2 (c : ClassCode) (b u : Byte) (s : State) :
    exec (.ccmatch2 c b u) s = .next (s.internally (s.deliver (.truth (matchBaseSub c b u)))) := rfl

/-- The meaning of CCMATCH3 (R146). -/
theorem exec_ccmatch3 (c : ClassCode) (b u i : Byte) (s : State) :
    exec (.ccmatch3 c b u i) s = .next (s.internally (s.deliver (.truth (matchAll c b u i)))) := rfl

/-- The meaning of ISSINGLE (R147). -/
theorem exec_issingle (h : Byte) (s : State) :
    exec (.issingle h) s = .next (s.internally (s.deliver (.truth (isSingle h)))) := rfl

/-- Settles O38: each predicate returns its test, and each test compares the supplied fields. -/
theorem classCodePredicatesCompareTheFieldsSupplied : Obligations.ClassCodePredicatesCompareTheFieldsSupplied := by
  intro s c b u i hc
  refine ⟨rfl, rfl, rfl, ?base, ?sub, ?interface⟩
  case base => rw [exec_ccmatch1, s.internally_deliver_rule _ hc, matchBase_eq_decide]
  case sub => rw [exec_ccmatch2, s.internally_deliver_rule _ hc, matchBaseSub_eq_decide]
  case interface => rw [exec_ccmatch3, s.internally_deliver_rule _ hc, matchAll_eq_decide]

/-- Settles O39: ISSINGLE returns its test, which is the bound 0x80 on the header type. -/
theorem issingleTestsBitSevenAlone : Obligations.IssingleTestsBitSevenAlone := by
  intro s h hc
  refine ⟨rfl, ?_⟩
  rw [exec_issingle, s.internally_deliver_rule _ hc, isSingle_eq_decide]

end Sys2Proof.Machine
end

/-! ## RDBAR's four steps (spec/44_bar_resolver.md R180)

`Laws/Ops` says what `readBar` does in each of R180's cases, in terms of its configuration reads. Under the premise
of R227 each read is one round trip; the second one starts where the first left the latch, the trace and the draws. -/

section

namespace Sys2Proof.Machine

/-- RDBAR is the return of what the resolver's algorithm gives (R180). -/
theorem exec_rdbar (bus : BusNo) (dev : DevNo) (fn : FnNo) (index : Byte) (s : State) :
    exec (.rdbar bus dev fn index) s = .next (State.complete (s.readBar bus dev fn index)) := rfl

/-- The upper half of a 64-bit BAR stands above the lower one (R88). -/
theorem assemble64_eq_append (lo hi : Word) : assemble64 lo hi = hi ++ lo := by
  rw [assemble64, BitVec.or_comm, ← setWidth_append_eq_shiftLeft_or, BitVec.setWidth_eq]

/-- Two round trips in a row: the later address stays in the latch, both pairs of events are in the trace, and the
second answer starts at the draw the first one left. A read changes no configuration word, so both answers are
those of the state before. -/
theorem State.afterRead_afterRead (s : State) (a a' : Word) :
    (s.afterRead a).afterRead a' = { s with
      cfgAddr := a'
      trace := s.trace ++ [.wa a, .rd (s.answerAt s.draws a),
        .wa a', .rd (s.answerAt (s.draws + s.answerDraws a) a')]
      draws := s.draws + s.answerDraws a + s.answerDraws a' } := by
  rw [State.afterRead, State.afterRead_trace, List.append_assoc]
  rfl

/-- Settles O31: the cases of the statement are those of `readBar`, an index that is neither at least 6 nor 5 being
below 5. -/
theorem rdbarFollowsItsFourSteps : Obligations.RdbarFollowsItsFourSteps := by
  intro s bus dev fn index h a lo a' hi
  have first : s.readConfig bus dev fn (barOffset index) = (lo, s.afterRead a) := s.readConfig_of_nil bus dev fn _ h
  have second : (s.afterRead a).readConfig bus dev fn (barOffset (index + 1)) =
      (hi, (s.afterRead a).afterRead a') := (s.afterRead a).readConfig_of_nil bus dev fn _ h
  have bit2 : isLowerHalf (s.readConfig bus dev fn (barOffset index)).1 = lo.getLsbD 2 := by rw [first]; rfl
  refine ⟨rfl, ?_⟩
  rw [exec_rdbar]
  by_cases hout : 6 ≤ index.toNat
  · rw [if_pos hout, s.readBar_refused bus dev fn index hout, State.complete]
  rw [if_neg hout]
  by_cases hsingle : lo.getLsbD 2 = false
  · rw [if_pos hsingle, s.readBar_single bus dev fn index (Nat.lt_of_not_le hout) (bit2.trans hsingle), first,
      State.complete]
  rw [if_neg hsingle]
  have hlower : lo.getLsbD 2 = true := Bool.eq_true_of_not_eq_false hsingle
  by_cases hlast : index.toNat = 5
  · rw [if_pos hlast, s.readBar_noUpper bus dev fn index hlast (bit2.trans hlower), first, State.complete]
  · have hpair : index.toNat < 5 := by omega
    rw [if_neg hlast, s.readBar_pair bus dev fn index hpair (bit2.trans hlower), first, second, State.complete,
      assemble64_eq_append, State.afterRead_afterRead]

end Sys2Proof.Machine
end

/-! ## The decoder and the encoder (spec/30_encoding.md R81, R85, R91 to R93)

The decoder branches on `op` alone, so what a word names is settled by its opcode and the fields that opcode uses. -/

section

namespace Sys2Proof

/-- Two words with one opcode that agree on the fields the opcode uses (R85's operand column, R93) decode alike. -/
theorem decode_congr {w w' : Word64} (hop : opField w = opField w')
    (hfn : opField w ∈ ([0x01, 0x05, 0x06, 0x07, 0x08, 0x09, 0x0A, 0x0B, 0x0C] : List Byte) →
      busField w = busField w' ∧ devField w = devField w' ∧ fnField w = fnField w')
    (harg : opField w ∈ ([0x01, 0x05, 0x06, 0x0C, 0x0F] : List Byte) → argField w = argField w')
    (hdata : opField w ∈ ([0x02, 0x04, 0x06] : List Byte) → dataField w = dataField w') :
    decode w = decode w' := by
  unfold decode
  rw [← hop]
  generalize opField w = op at hfn harg hdata
  split <;> simp_all

/-- A host command's operands are read back from the fields they were written to (R81). -/
theorem decode_encode_of_isHost {i : Instr} (h : i.isHost = true) : decode (encode i) = .command i := by
  cases i
  case regreset | regadd | scanbus | scandev | scanfn | ccmatch1 | ccmatch2 | ccmatch3 | issingle => nomatch h
  all_goals simp [encode, Instr.opcode, decode]

/-- An operation without arguments is its code (R92). -/
theorem decode_encode_of_noArguments {i : Instr} (h : i.noArguments = true) : decode (encode i) = .command i := by
  cases i <;> simp_all [Instr.noArguments, encode, Instr.opcode, decode]

/-- Each branch of the decoder but the last names an operation of the branch's own opcode, an internal one without
arguments. -/
theorem wellFormed_and_opcode_of_decode {w : Word64} {i : Instr} (h : decode w = .command i) :
    i.wellFormed = true ∧ i.opcode = opField w := by
  unfold decode at h
  split at h
  case h_25 => nomatch h
  all_goals
    rename_i hop
    cases h
    exact ⟨rfl, hop.symm⟩

/-- The opcodes of R85's rows. -/
def opcodes : List Byte :=
  [0x01, 0x02, 0x03, 0x04, 0x05, 0x06, 0x07, 0x08, 0x09, 0x0A, 0x0B, 0x0C, 0x0D, 0x0E, 0x0F,
   0x80, 0x81, 0x82, 0x83, 0x84, 0x85, 0x86, 0x87, 0x88]

/-- R91's three ranges are what R85's rows leave of a byte. -/
theorem not_mem_opcodes_iff (op : Byte) : op ∉ opcodes ↔
    (op = 0x00 ∨ (0x10 ≤ op.toNat ∧ op.toNat ≤ 0x7F) ∨ 0x89 ≤ op.toNat) := by
  decide +revert

/-- A word is illegal exactly when its opcode is in none of R85's rows. -/
theorem decode_eq_illegal_iff (w : Word64) : decode w = .illegal (opField w) ↔ opField w ∉ opcodes := by
  unfold decode opcodes
  split <;> simp_all

/-- Settles O1: a well-formed operation is a host command or one without arguments. -/
theorem decodeOfEncodeIsTheInstruction : Obligations.DecodeOfEncodeIsTheInstruction := by
  intro i h
  rcases Bool.or_eq_true _ _ ▸ h with hhost | hnone
  · exact decode_encode_of_isHost hhost
  · exact decode_encode_of_noArguments hnone

/-- Settles O2. -/
theorem decodedInstructionHasTheOpcode : Obligations.DecodedInstructionHasTheOpcode :=
  fun _ _ h => wellFormed_and_opcode_of_decode h

/-- Settles O3. -/
theorem unusedFieldsDoNotChangeDecoding : Obligations.UnusedFieldsDoNotChangeDecoding :=
  fun _ _ hop hfn harg hdata => decode_congr hop hfn harg hdata

/-- Settles O4: the illegal opcodes are those of no row of R85, which R91 gives as three ranges. -/
theorem illegalWordsAreThoseOfTheIllegalOpcodes : Obligations.IllegalWordsAreThoseOfTheIllegalOpcodes :=
  fun w => (decode_eq_illegal_iff w).trans (not_mem_opcodes_iff _)

/-- Settles O5: nine closed words, evaluated. -/
theorem writtenWordsDecode : Obligations.WrittenWordsDecode := by
  unfold Obligations.WrittenWordsDecode
  decide

end Sys2Proof
end

/-! ## What an operation does: its port activity, and where its return goes

An operation of the host and one that a rule issued run through the same `exec`. The port activity is the same in
both cases; what differs is whether the return is the response or a value for the calling rule (log 3). -/

section

namespace Sys2Proof.Machine

/-- The state after an operation's port transactions (spec/41_config_port.md, spec/44_bar_resolver.md); the
operations not listed make none. -/
def State.afterPort (s : State) : Instr → State
  | .wraddr addr => s.ioWriteAddr addr
  | .rddata => s.ioReadData.2
  | .wrdata value => s.ioWriteData value
  | .cfgrd bus dev fn offset => (s.readConfig bus dev fn offset).2
  | .cfgwr bus dev fn offset value => s.writeConfig bus dev fn offset value
  | .rdvendor bus dev fn => (s.readConfig bus dev fn Config.offVendorDevice).2
  | .rddevid bus dev fn => (s.readConfig bus dev fn Config.offVendorDevice).2
  | .rdhdr bus dev fn => (s.readConfig bus dev fn Config.offHeader).2
  | .rdclass bus dev fn => (s.readConfig bus dev fn Config.offClass).2
  | .rdbusnum bus dev fn => (s.readConfig bus dev fn Config.offBusNumbers).2
  | .rdbar bus dev fn index => (s.readBar bus dev fn index).2
  | _ => s

/-- RDBAR makes no round trip, one, or a second one at the next BAR, and fails with one kind only (R180). -/
theorem State.readBar_cases (s : State) (bus : BusNo) (dev : DevNo) (fn : FnNo) (index : Byte) :
    (s.readBar bus dev fn index).1 ≠ .failed .full ∧
    ((s.readBar bus dev fn index).2 = s ∨
     (s.readBar bus dev fn index).2 = (s.readConfig bus dev fn (barOffset index)).2 ∨
     (s.readBar bus dev fn index).2 =
       ((s.readConfig bus dev fn (barOffset index)).2.readConfig bus dev fn (barOffset (index + 1))).2) := by
  by_cases hout : 6 ≤ index.toNat
  · simp [s.readBar_refused bus dev fn index hout]
  cases hlower : isLowerHalf (s.readConfig bus dev fn (barOffset index)).1
  · simp [s.readBar_single bus dev fn index (Nat.lt_of_not_le hout) hlower]
  by_cases hlast : index.toNat = 5
  · simp [s.readBar_noUpper bus dev fn index hlast hlower]
  · simp [s.readBar_pair bus dev fn index (by omega) hlower]

/-- An operation makes no port transaction, or is a raw primitive or CFGWR, or makes one or two configuration
reads. -/
theorem State.afterPort_cases (s : State) (i : Instr) :
    s.afterPort i = s ∨ (∃ v, i = .wraddr v) ∨ i = .rddata ∨ (∃ v, i = .wrdata v) ∨
    (∃ bus dev fn o v, i = .cfgwr bus dev fn o v) ∨
    (∃ bus dev fn o, s.afterPort i = (s.readConfig bus dev fn o).2) ∨
    (∃ bus dev fn o o', s.afterPort i = ((s.readConfig bus dev fn o).2.readConfig bus dev fn o').2) := by
  cases i
  case wraddr v => exact .inr (.inl ⟨v, rfl⟩)
  case rddata => exact .inr (.inr (.inl rfl))
  case wrdata v => exact .inr (.inr (.inr (.inl ⟨v, rfl⟩)))
  case cfgwr bus dev fn o v => exact .inr (.inr (.inr (.inr (.inl ⟨bus, dev, fn, o, v, rfl⟩))))
  case cfgrd | rdvendor | rddevid | rdhdr | rdclass | rdbusnum =>
    exact .inr (.inr (.inr (.inr (.inr (.inl ⟨_, _, _, _, rfl⟩)))))
  case rdbar bus dev fn index =>
    rcases (s.readBar_cases bus dev fn index).2 with h | h | h
    · exact .inl h
    · exact .inr (.inr (.inr (.inr (.inr (.inl ⟨_, _, _, _, h⟩)))))
    · exact .inr (.inr (.inr (.inr (.inr (.inr ⟨_, _, _, _, _, h⟩)))))
  all_goals exact .inl rfl

/-- What every port transaction keeps, an operation's port activity keeps. -/
theorem State.afterPort_induct {P : State → Prop} (hwa : ∀ s v, P s → P (s.ioWriteAddr v))
    (hrd : ∀ s, P s → P s.ioReadData.2) (hwd : ∀ s v, P s → P (s.ioWriteData v)) (s : State) (i : Instr)
    (hs : P s) : P (s.afterPort i) := by
  have read (t : State) (bus dev fn o) (h : P t) : P (t.readConfig bus dev fn o).2 := hrd _ (hwa _ _ h)
  rcases s.afterPort_cases i with h | ⟨v, rfl⟩ | rfl | ⟨v, rfl⟩ | ⟨bus, dev, fn, o, v, rfl⟩ | ⟨bus, dev, fn, o, h⟩ |
    ⟨bus, dev, fn, o, o', h⟩
  · rwa [h]
  · exact hwa s v hs
  · exact hrd s hs
  · exact hwd s v hs
  · exact hwd _ v (hwa s _ hs)
  · rw [h]
    exact read _ _ _ _ _ hs
  · rw [h]
    exact read _ _ _ _ _ (read _ _ _ _ _ hs)

/-- A part of the state that no port transaction changes is not changed by port activity. -/
theorem State.afterPort_same {α : Type} (f : State → α) (hwa : ∀ s v, f (s.ioWriteAddr v) = f s)
    (hrd : ∀ s, f s.ioReadData.2 = f s) (hwd : ∀ s v, f (s.ioWriteData v) = f s) (s : State) (i : Instr) :
    f (s.afterPort i) = f s :=
  State.afterPort_induct (P := fun t => f t = f s) (fun t v h => (hwa t v).trans h) (fun t h => (hrd t).trans h)
    (fun t v h => (hwd t v).trans h) s i rfl

@[simp] theorem State.afterPort_regCount (s : State) (i : Instr) : (s.afterPort i).regCount = s.regCount :=
  s.afterPort_same State.regCount (by simp) (by simp) (by simp) i

@[simp] theorem State.afterPort_regEntry (s : State) (i : Instr) : (s.afterPort i).regEntry = s.regEntry :=
  s.afterPort_same State.regEntry (by simp) (by simp) (by simp) i

@[simp] theorem State.afterPort_run (s : State) (i : Instr) : (s.afterPort i).run = s.run :=
  s.afterPort_same State.run (by simp) (by simp) (by simp) i

@[simp] theorem State.afterPort_cursor (s : State) (i : Instr) : (s.afterPort i).cursor = s.cursor :=
  s.afterPort_same State.cursor (by simp) (by simp) (by simp) i

@[simp] theorem State.afterPort_ret (s : State) (i : Instr) : (s.afterPort i).ret = s.ret :=
  s.afterPort_same State.ret (by simp) (by simp) (by simp) i

@[simp] theorem State.afterPort_commands (s : State) (i : Instr) : (s.afterPort i).commands = s.commands :=
  s.afterPort_same State.commands (by simp) (by simp) (by simp) i

@[simp] theorem State.afterPort_responses (s : State) (i : Instr) : (s.afterPort i).responses = s.responses :=
  s.afterPort_same State.responses (by simp) (by simp) (by simp) i

/-- REGRD fails with one kind only (R143). -/
theorem State.regRead_ne_full (s : State) (index : Byte) : (s.regRead index).1 ≠ .failed .full := by
  by_cases h : s.regCount.toNat ≤ index.toNat
  · simp [s.regRead_beyond index h]
  · simp [s.regRead_below index (Nat.lt_of_not_le h)]

/-- The host commands but SCANALL run to their return, which is never `Full` (R191). -/
theorem exec_host {i : Instr} (hi : i.isHost = true) (hne : i ≠ .scanall) (s : State) :
    ∃ r, exec i s = .next ((s.afterPort i).deliver r) ∧ r ≠ .failed .full := by
  cases i
  case regreset | regadd | scanbus | scandev | scanfn | ccmatch1 | ccmatch2 | ccmatch3 | issingle => nomatch hi
  case scanall => exact absurd rfl hne
  case rdbar bus dev fn index => exact ⟨_, rfl, (s.readBar_cases bus dev fn index).1⟩
  case regrd index =>
    have quiet : (s.regRead index).2 = s.afterPort (.regrd index) := s.regRead_state index
    exact ⟨_, congrArg (fun t : State => Host.Outcome.next (t.deliver _)) quiet, s.regRead_ne_full index⟩
  all_goals exact ⟨_, rfl, nofun⟩

/-- An internal operation that no activation issued is answered `BadCommand` (R92, R201). -/
theorem exec_internal_of_cursor_nil {i : Instr} (hi : i.isHost = false) (s : State) (h : s.cursor = []) :
    exec i s = .next s.badCommand := by
  have closed (effect : State) : s.internally effect = s.badCommand := s.internally_host effect h
  cases i
  case regreset | regadd | scanbus | scandev | scanfn | ccmatch1 | ccmatch2 | ccmatch3 | issingle =>
    exact congrArg _ (closed _)
  all_goals nomatch hi

/-- Every command but SCANALL is answered at once: its port activity, and one response, never `Full`. -/
theorem exec_of_cursor_nil {i : Instr} (hne : i ≠ .scanall) (s : State) (h : s.cursor = []) :
    ∃ r, exec i s = .next ((s.afterPort i).respond r) ∧ r ≠ .failed .full := by
  cases hi : i.isHost
  · have quiet : s.afterPort i = s := by
      cases i
      case regreset | regadd | scanbus | scandev | scanfn | ccmatch1 | ccmatch2 | ccmatch3 | issingle => rfl
      all_goals nomatch hi
    exact ⟨.failed .badCommand, by rw [exec_internal_of_cursor_nil hi s h, quiet]; rfl, nofun⟩
  · obtain ⟨r, he, hr⟩ := exec_host hi hne s
    exact ⟨r, by rw [he, State.deliver_host _ _ (by rw [State.afterPort_cursor, h])], hr⟩

/-- What the operations beside their port activity do not touch: returns change the run state, the return latch, the
responses and the draws, procedures the cursor, and REGRESET and REGADD the registry. -/
theorem exec_same {α : Type} (f : State → α) (hrespond : ∀ s r, f (s.respond r) = f s)
    (hengine : ∀ s run cursor ret, f { s with run := run, cursor := cursor, ret := ret } = f s)
    (hregistry : ∀ s count entries, f { s with regCount := count, regEntry := entries } = f s)
    {i : Instr} {s t : State} (h : exec i s = .next t) : f t = f (s.afterPort i) := by
  have deliver (u : State) (r : Returned) : f (u.deliver r) = f u := by
    unfold State.deliver
    split
    · exact hrespond u r
    · exact hengine u u.run u.cursor (some r)
  have internally (e : State) (he : f e = f s) : f (s.internally e) = f s := by
    unfold State.internally
    split
    · exact hrespond s _
    · exact he
  have add (d : Device) : f (s.regAdd d).2 = f s := by
    unfold State.regAdd
    split
    · rfl
    · exact hregistry s _ _
  cases hi : i.isHost
  case true =>
    by_cases hall : i = .scanall
    · subst hall
      obtain rfl := Host.Outcome.next.inj h
      split
      · exact hengine s _ _ _
      · rfl
    · obtain ⟨r, he, -⟩ := exec_host hi hall s
      obtain rfl := Host.Outcome.next.inj (he.symm.trans h)
      exact deliver _ _
  case false =>
    cases i
    case regreset =>
      obtain rfl := Host.Outcome.next.inj h
      exact internally _ ((deliver _ _).trans (hregistry s 0 s.regEntry))
    case regadd d =>
      obtain rfl := Host.Outcome.next.inj h
      exact internally _ ((deliver _ _).trans (add d))
    case scanbus | scandev | scanfn =>
      obtain rfl := Host.Outcome.next.inj h
      exact internally _ (hengine s s.run _ none)
    case ccmatch1 | ccmatch2 | ccmatch3 | issingle =>
      obtain rfl := Host.Outcome.next.inj h
      exact internally _ (deliver _ _)
    all_goals nomatch hi

theorem exec_commands {i : Instr} {s t : State} (h : exec i s = .next t) : t.commands = s.commands :=
  (exec_same State.commands (fun _ _ => rfl) (fun _ _ _ _ => rfl) (fun _ _ _ => rfl) h).trans
    (s.afterPort_commands i)

/-- Two states with the same port pair, platform, trace and external moves. -/
structure State.SamePorts (t s : State) : Prop where
  cfgAddr : t.cfgAddr = s.cfgAddr
  cfg : t.cfg = s.cfg
  external : t.external = s.external
  trace : t.trace = s.trace

/-- Of the ports an operation leaves what its port activity leaves. -/
theorem exec_samePorts {i : Instr} {s t : State} (h : exec i s = .next t) : t.SamePorts (s.afterPort i) where
  cfgAddr := exec_same State.cfgAddr (fun _ _ => rfl) (fun _ _ _ _ => rfl) (fun _ _ _ => rfl) h
  cfg := exec_same State.cfg (fun _ _ => rfl) (fun _ _ _ _ => rfl) (fun _ _ _ => rfl) h
  external := exec_same State.external (fun _ _ => rfl) (fun _ _ _ _ => rfl) (fun _ _ _ => rfl) h
  trace := exec_same State.trace (fun _ _ => rfl) (fun _ _ _ _ => rfl) (fun _ _ _ => rfl) h

/-- Who can have a step run an operation: the host, with its next word, or the innermost activation's rule. -/
def State.CanRun (s : State) (i : Instr) : Prop :=
  (s.run = .busy ∧ ∃ a a' rest, s.cursor = a :: rest ∧ nextAction a s.ret = .issue i a') ∨
  (s.run = .idle ∧ ∃ w rest, s.commands = w :: rest ∧ decode w = .command i)

/-- A step's port activity is that of the operation it runs; without one there is none. -/
theorem step_samePorts {s t : State} (h : step s = .next t) :
    t.SamePorts s ∨ ∃ (i : Instr) (u : State), s.CanRun i ∧ u.SamePorts s ∧ t.SamePorts (u.afterPort i) := by
  rcases step_next_cases s t h with ⟨-, -, rfl⟩ | ⟨w, rest, i, hr, hc, hd, he⟩ | ⟨w, rest, op, -, -, -, rfl⟩ |
    ⟨a, a', rest, i, hr, hc, ha, he⟩ | ⟨a, rest, r, -, -, -, rfl⟩
  · exact .inl ⟨rfl, rfl, rfl, rfl⟩
  · exact .inr ⟨i, s.takeCommand rest, .inr ⟨hr, w, rest, hc, hd⟩, ⟨rfl, rfl, rfl, rfl⟩, exec_samePorts he⟩
  · exact .inl ⟨rfl, rfl, rfl, rfl⟩
  · exact .inr ⟨i, { s with cursor := a' :: rest, ret := none }, .inl ⟨hr, a, a', rest, hc, ha⟩,
      ⟨rfl, rfl, rfl, rfl⟩, exec_samePorts he⟩
  · exact .inl ⟨s.finish_cfgAddr r, s.finish_cfg r, s.finish_external r, s.finish_trace r⟩

end Sys2Proof.Machine
end

/-! ## Commands and responses (spec/10_state.md R32, spec/30_encoding.md R91, R92, spec/60_exceptions.md R193) -/

section

namespace Sys2Proof.Machine

/-- A host command's opcode is one of 0x01 to 0x0F (R85). -/
theorem opcode_of_isHost {i : Instr} (h : i.isHost = true) : 0x01 ≤ i.opcode.toNat ∧ i.opcode.toNat ≤ 0x0F := by
  cases i
  case regreset | regadd | scanbus | scandev | scanfn | ccmatch1 | ccmatch2 | ccmatch3 | issingle => nomatch h
  all_goals simp [Instr.opcode]

/-- An opcode outside 0x01 to 0x0F names no host command. -/
theorem isHost_eq_false_of_decode {w : Word64} {i : Instr} (hd : decode w = .command i)
    (hop : opField w = 0x00 ∨ 0x10 ≤ (opField w).toNat) : i.isHost = false := by
  have hopcode : i.opcode = opField w := (wellFormed_and_opcode_of_decode hd).2
  by_contra hhost
  obtain ⟨hlow, hhigh⟩ := opcode_of_isHost (Bool.eq_true_of_not_eq_false hhost)
  rw [hopcode] at hlow hhigh
  rcases hop with hzero | hge
  · rw [hzero] at hlow
    exact absurd hlow (by decide)
  · omega

/-- Only 0x0D names SCANALL. -/
theorem ne_scanall_of_decode {w : Word64} {i : Instr} (hd : decode w = .command i) (hop : opField w ≠ 0x0D) :
    i ≠ .scanall := by
  rintro rfl
  exact hop (wellFormed_and_opcode_of_decode hd).2.symm

/-- A word that an Idle engine turns away leaves only the `BadCommand` response (R193). -/
theorem State.badCommand_takeCommand {s : State} (rest : List Word64) (hr : s.run = .idle) :
    (s.takeCommand rest).badCommand = { s with
      cursor := []
      commands := rest
      responses := s.responses ++ [⟨.badCommand, Config.failPayload s.draws⟩]
      draws := s.draws + 1 } := by
  rw [hr]
  rfl

/-- An Idle engine's step on a word that is not SCANALL's: port activity, and one response, never `Full`. (An illegal word's
port activity is none, like REGCNT's.) -/
theorem step_of_command {s t : State} {w : Word64} {rest : List Word64} (hr : s.run = .idle)
    (hc : s.commands = w :: rest) (hop : opField w ≠ 0x0D) (h : step s = .next t) :
    ∃ i r, t = ((s.takeCommand rest).afterPort i).respond r ∧ r ≠ .failed .full := by
  cases hd : decode w with
  | command i =>
    obtain ⟨r, he, hfull⟩ := exec_of_cursor_nil (ne_scanall_of_decode hd hop) (s.takeCommand rest) rfl
    rw [step_command s w rest i hr hc hd, he] at h
    exact ⟨i, r, (Host.Outcome.next.inj h).symm, hfull⟩
  | illegal op =>
    rw [step_illegal s w rest op hr hc hd] at h
    exact ⟨.regcnt, .failed .badCommand, (Host.Outcome.next.inj h).symm, nofun⟩

/-- SCANALL, the host's command, puts its activation on the cursor (R160). -/
theorem exec_scanall_of_cursor_nil (s : State) (h : s.cursor = []) :
    exec .scanall s = .next { s with run := .busy, cursor := [.scanAll .start 1], ret := none } := by
  show Host.Outcome.next (match s.cursor with | [] => _ | _ :: _ => _) = _
  rw [h]

/-- An Idle engine's step on SCANALL's word. -/
theorem step_of_scanall {s : State} {w : Word64} {rest : List Word64} (hr : s.run = .idle)
    (hc : s.commands = w :: rest) (hop : opField w = 0x0D) :
    step s = .next { s with run := .busy, cursor := [.scanAll .start 1], ret := none, commands := rest } := by
  have hd : decode w = .command .scanall := by
    unfold decode
    rw [hop]
    rfl
  rw [step_command s w rest .scanall hr hc hd, exec_scanall_of_cursor_nil _ rfl]
  rfl

/-- Settles O6: `takeCommand` is the state the statement writes out. -/
theorem stepRunsTheDecodedCommand : Obligations.StepRunsTheDecodedCommand :=
  fun s w rest i hr hc hd _ => step_command s w rest i hr hc hd

/-- Settles O7. -/
theorem busyStepRunsTheIssuedOperation : Obligations.BusyStepRunsTheIssuedOperation :=
  fun s a a' rest i hr hc ha => step_issue s a a' rest i hr hc ha

/-- Settles O8: such a word is illegal, or names an internal operation, which no activation issued here. -/
theorem stepTurnsAwayIllegalAndInternalWords : Obligations.StepTurnsAwayIllegalAndInternalWords := by
  intro s w rest hr hc hop
  rw [← s.badCommand_takeCommand rest hr]
  cases hd : decode w with
  | command i =>
    rw [step_command s w rest i hr hc hd,
      exec_internal_of_cursor_nil (isHost_eq_false_of_decode hd hop) (s.takeCommand rest) rfl]
  | illegal op => exact step_illegal s w rest op hr hc hd

/-- Settles O9. -/
theorem internalOperationsAreClosedToTheHost : Obligations.InternalOperationsAreClosedToTheHost :=
  fun s _ hc hi => exec_internal_of_cursor_nil hi s hc

/-- Settles O10. -/
theorem idleEngineWaitsForACommand : Obligations.IdleEngineWaitsForACommand :=
  fun s hr hc => step_wait s hr hc

/-- Settles O11: a Busy engine's step runs an operation or ends an activation, and neither touches the list. -/
theorem busyEngineAcceptsNoCommand : Obligations.BusyEngineAcceptsNoCommand := by
  intro s t hr h
  rcases step_next_cases s t h with ⟨hidle, -⟩ | ⟨w, rest, i, hidle, -⟩ | ⟨w, rest, op, hidle, -⟩ |
    ⟨a, a', rest, i, -, -, -, he⟩ | ⟨a, rest, r, -, -, -, rfl⟩
  case inr.inr.inr.inl =>
    have kept := exec_commands he
    exact kept
  case inr.inr.inr.inr => exact s.finish_commands r
  all_goals nomatch hr.symm.trans hidle

/-- Settles O12. -/
theorem oneResponsePerCommand : Obligations.OneResponsePerCommand := by
  intro s t w rest hr hc hop h
  obtain ⟨i, r, rfl, -⟩ := step_of_command hr hc hop h
  exact ⟨rfl, by simp, r.response ((s.takeCommand rest).afterPort i).draws, by simp⟩

/-- Settles O13: with no activation a return is `respond`, by the kinds of returns; with one it is the latch. -/
theorem returnsGoToTheHostOrTheCallingRule : Obligations.ReturnsGoToTheHostOrTheCallingRule :=
  ⟨fun s v h => s.deliver_host (.value v) h, fun s c h => s.deliver_host (.classCode c) h,
    fun s f h => s.deliver_host (.failed f) h, fun s r h => s.deliver_rule r h, rfl, rfl, rfl, rfl⟩

/-- Settles O14. -/
theorem resetLeavesAnEmptyRegistryAndAnIdleEngine : Obligations.ResetLeavesAnEmptyRegistryAndAnIdleEngine :=
  ⟨rfl, rfl, rfl, rfl, step_wait _ rfl rfl⟩

/-- Settles O40: a waiting engine changes nothing, SCANALL's acceptance only the engine, and of any other command
neither the port activity nor the response touches the registry. -/
theorem registryChangesOnlyWhileAScanRuns : Obligations.RegistryChangesOnlyWhileAScanRuns := by
  intro s t hr h
  cases hc : s.commands with
  | nil =>
    obtain rfl := Host.Outcome.next.inj ((step_wait s hr hc).symm.trans h)
    exact ⟨rfl, rfl⟩
  | cons w rest =>
    by_cases hop : opField w = 0x0D
    · obtain rfl := Host.Outcome.next.inj ((step_of_scanall hr hc hop).symm.trans h)
      exact ⟨rfl, rfl⟩
    · obtain ⟨i, r, rfl, -⟩ := step_of_command hr hc hop h
      exact ⟨by simp, by simp⟩

/-- Settles O42: with SCANALL at its start the next step issues REGRESET. -/
theorem scanallStartsByEmptyingTheRegistry : Obligations.ScanallStartsByEmptyingTheRegistry := by
  intro s h
  refine ⟨_, exec_scanall_of_cursor_nil s h, rfl, ?_⟩
  rw [step_issue _ (.scanAll .start 1) (.scanAll .reset 1) [] .regreset rfl rfl rfl]
  rfl

/-- Settles O43. -/
theorem scannerProceduresBecomeInnermost : Obligations.ScannerProceduresBecomeInnermost :=
  fun s _ _ _ h => ⟨congrArg _ (s.internally_rule _ h), congrArg _ (s.internally_rule _ h),
    congrArg _ (s.internally_rule _ h)⟩

end Sys2Proof.Machine
end

/-! ## What the sequencer's rules do (spec/43_scanner.md R160 to R164)

The rules are read once here, line by line: which operation a line issues and what the activation then waits for,
with what it ends, and that it never lacks the return it waits for. The invariant, the read-only claim and the port
discipline of a scan use these facts, not the rules. -/

section

namespace Sys2Proof.Machine

/-- Which operations the rules issue, from which activation `a`, and what `a'`, the activation at its next place,
waits for. -/
def IssuedBy (i : Instr) (a a' : Activation) : Prop :=
  match i with
  | .rdvendor _ _ _ | .rdhdr _ _ _ | .rdbusnum _ _ _ => a'.waitsFor = .value
  | .rdclass _ _ _ => a'.waitsFor = .classCode
  | .issingle _ | .ccmatch2 _ _ _ => a'.waitsFor = .truth
  | .regreset => ∃ f, a = .scanAll .start f ∧ a' = .scanAll .reset f
  | .regadd _ => (∃ bus dev fn h c, a = .scanFn .header bus dev fn h c) ∧ a'.isAdding = true
  | .scanbus bus => a'.calls (.scanBus .start bus 0) = true
  | .scandev bus dev => a'.calls (.scanDev .start bus dev 1) = true
  | .scanfn bus dev fn => a'.calls (.scanFn .start bus dev fn 0 .zero) = true
  | _ => False

/-- What holds of an activation that issues an operation and goes on at its next place: the operation is one of the
rules', the arguments of R31 stay, the loop index stays in its range, and no entry is held that was not. -/
structure Issues (a : Activation) (ret : Option Returned) (i : Instr) (a' : Activation) : Prop where
  issued : IssuedBy i a a'
  busArgument : a'.busArgument = a.busArgument
  devArgument : a'.devArgument = a.devArgument
  fnArgument : a'.fnArgument = a.fnArgument
  isScanAll : a'.isScanAll = a.isScanAll
  inRange : a.inRange = true → a'.inRange = true
  held : entriesHeld [a'] none ≤ entriesHeld [a] ret

/-- What may be next for an activation `a` with the return `ret`: an operation of its rule; an end with Success and
0, or with the failing kind returned to it where it waits for a result (R164); or nothing, where `ret` is not what it
waits for. -/
def Action.Sound (a : Activation) (ret : Option Returned) : Action → Prop
  | .issue i a' => Issues a ret i a'
  | .finish r => r = .value 0 ∨ ∃ f, r = .failed f ∧ ret = some (.failed f) ∧ a.waitsFor = .result
  | .lost => ∀ count, a.waitsFor.fits ret count = false

section Waiting

variable {a : Activation} {ret : Option Returned}

theorem sound_success : (Action.finish (.value 0)).Sound a ret := .inl rfl

theorem sound_onReturn {goOn : Action} (hw : a.waitsFor = .result)
    (h : ∀ v, ret = some (.value v) → goOn.Sound a ret) : (onReturn ret goOn).Sound a ret := by
  rcases ret with _ | (v | c | b | f)
  case some.value => exact h v rfl
  case some.failed => exact .inr ⟨f, rfl, rfl, hw⟩
  all_goals
    intro count
    rw [hw]
    rfl

theorem sound_onValue {goOn : Word64 → Action} (hw : a.waitsFor = .value) (h : ∀ v, (goOn v).Sound a ret) :
    (onValue ret goOn).Sound a ret := by
  rcases ret with _ | (v | c | b | f)
  case some.value => exact h v
  all_goals
    intro count
    rw [hw]
    rfl

theorem sound_onTruth {ifTrue ifFalse : Action} (hw : a.waitsFor = .truth) (ht : ifTrue.Sound a ret)
    (hf : ifFalse.Sound a ret) : (onTruth ret ifTrue ifFalse).Sound a ret := by
  rcases ret with _ | (v | c | (_ | _) | f)
  case some.truth.false => exact hf
  case some.truth.true => exact ht
  all_goals
    intro count
    rw [hw]
    rfl

theorem sound_onClass {goOn : ClassCode → Action} (hw : a.waitsFor = .classCode) (h : ∀ c, (goOn c).Sound a ret) :
    (onClass ret goOn).Sound a ret := by
  rcases ret with _ | (v | c | b | f)
  case some.classCode => exact h c
  all_goals
    intro count
    rw [hw]
    rfl

end Waiting

/-- SCANALL's loop asks for the next function, or ends after 7. -/
theorem sound_nextRoot (place : AllPlace) (f : Nat) (ret : Option Returned) {g : Nat} (hg : 1 ≤ g) :
    (nextRoot g).Sound (.scanAll place f) ret := by
  unfold nextRoot
  split
  next hlt =>
    have range : (Activation.scanAll .vendor g).inRange = true := by
      simpa [Activation.inRange, hg] using Nat.le_of_lt_succ hlt
    exact ⟨rfl, rfl, rfl, rfl, rfl, fun _ => range, Nat.zero_le _⟩
  next => exact sound_success

/-- SCANBUS's loop asks for the next device, or ends after 31. -/
theorem sound_nextDevice (place : BusPlace) (bus : BusNo) (d : Nat) (ret : Option Returned) (e : Nat) :
    (nextDevice bus e).Sound (.scanBus place bus d) ret := by
  unfold nextDevice
  split
  next hlt =>
    have range : (Activation.scanBus .vendor bus e).inRange = true := by
      simpa [Activation.inRange] using Nat.le_of_lt_succ hlt
    exact ⟨rfl, rfl, rfl, rfl, rfl, fun _ => range, Nat.zero_le _⟩
  next => exact sound_success

/-- SCANDEV's loop asks for the next function, or ends after 7. -/
theorem sound_nextFunction (place : DevPlace) (bus : BusNo) (dev : DevNo) (f : Nat) (ret : Option Returned) {g : Nat}
    (hg : 1 ≤ g) : (nextFunction bus dev g).Sound (.scanDev place bus dev f) ret := by
  unfold nextFunction
  split
  next hlt =>
    have range : (Activation.scanDev .vendor bus dev g).inRange = true := by
      simpa [Activation.inRange, hg] using Nat.le_of_lt_succ hlt
    exact ⟨rfl, rfl, rfl, rfl, rfl, fun _ => range, Nat.zero_le _⟩
  next => exact sound_success

/-- SCANALL, at the scan of function `f`'s bus, calls SCANBUS of that bus. -/
theorem segment_calls_scanbus (f : Nat) :
    (Activation.scanAll .segment f).calls (.scanBus .start (functionAsBus f) 0) = true := by
  simp [Activation.calls, Activation.busArgument]

/-- SCANBUS, at a present device, calls SCANDEV of it. -/
theorem device_calls_scandev (bus : BusNo) (d : Nat) :
    (Activation.scanBus .device bus d).calls (.scanDev .start bus (BitVec.ofNat 5 d) 1) = true := by
  simp [Activation.calls, Activation.devArgument]

/-- SCANDEV, at its first line, calls SCANFN of function 0. -/
theorem first_calls_scanfn (bus : BusNo) (dev : DevNo) (f : Nat) :
    (Activation.scanDev .first bus dev f).calls (.scanFn .start bus dev 0 0 .zero) = true := by
  simp [Activation.calls, Activation.fnArgument]

/-- SCANDEV, at a present function, calls SCANFN of it. -/
theorem function_calls_scanfn (bus : BusNo) (dev : DevNo) (f : Nat) :
    (Activation.scanDev .function bus dev f).calls (.scanFn .start bus dev (BitVec.ofNat 3 f) 0 .zero) = true := by
  simp [Activation.calls, Activation.fnArgument]

/-- The lines of R160. -/
theorem sound_scanAllAction (place : AllPlace) (f : Nat) (ret : Option Returned) :
    (scanAllAction place f ret).Sound (.scanAll place f) ret := by
  cases place
  case start => exact ⟨⟨f, rfl, rfl⟩, rfl, rfl, rfl, rfl, id, Nat.zero_le _⟩
  case reset => exact sound_onReturn rfl fun _ _ => ⟨rfl, rfl, rfl, rfl, rfl, id, Nat.zero_le _⟩
  case header => exact sound_onValue rfl fun _ => ⟨rfl, rfl, rfl, rfl, rfl, id, Nat.zero_le _⟩
  case single =>
    exact sound_onTruth rfl ⟨rfl, rfl, rfl, rfl, rfl, id, Nat.zero_le _⟩ (sound_nextRoot _ f ret (Nat.le_refl 1))
  case root => exact sound_onReturn rfl fun _ _ => sound_success
  case vendor =>
    refine sound_onValue rfl fun v => ?_
    split
    · exact sound_nextRoot _ f ret (Nat.le_add_left 1 f)
    · exact ⟨segment_calls_scanbus f, rfl, rfl, rfl, rfl, id, Nat.zero_le _⟩
  case segment => exact sound_onReturn rfl fun _ _ => sound_nextRoot _ f ret (Nat.le_add_left 1 f)

/-- The lines of R161. -/
theorem sound_scanBusAction (place : BusPlace) (bus : BusNo) (d : Nat) (ret : Option Returned) :
    (scanBusAction place bus d ret).Sound (.scanBus place bus d) ret := by
  cases place
  case start => exact sound_nextDevice _ bus d ret 0
  case vendor =>
    refine sound_onValue rfl fun v => ?_
    split
    · exact sound_nextDevice _ bus d ret (d + 1)
    · exact ⟨device_calls_scandev bus d, rfl, rfl, rfl, rfl, id, Nat.zero_le _⟩
  case device => exact sound_onReturn rfl fun _ _ => sound_nextDevice _ bus d ret (d + 1)

/-- The lines of R162. -/
theorem sound_scanDevAction (place : DevPlace) (bus : BusNo) (dev : DevNo) (f : Nat) (ret : Option Returned) :
    (scanDevAction place bus dev f ret).Sound (.scanDev place bus dev f) ret := by
  cases place
  case start => exact ⟨first_calls_scanfn bus dev f, rfl, rfl, rfl, rfl, id, Nat.zero_le _⟩
  case first => exact sound_onReturn rfl fun _ _ => ⟨rfl, rfl, rfl, rfl, rfl, id, Nat.zero_le _⟩
  case header => exact sound_onValue rfl fun _ => ⟨rfl, rfl, rfl, rfl, rfl, id, Nat.zero_le _⟩
  case single => exact sound_onTruth rfl sound_success (sound_nextFunction _ bus dev f ret (Nat.le_refl 1))
  case vendor =>
    refine sound_onValue rfl fun v => ?_
    split
    · exact sound_nextFunction _ bus dev f ret (Nat.le_add_left 1 f)
    · exact ⟨function_calls_scanfn bus dev f, rfl, rfl, rfl, rfl, id, Nat.zero_le _⟩
  case function => exact sound_onReturn rfl fun _ _ => sound_nextFunction _ bus dev f ret (Nat.le_add_left 1 f)

/-- The lines of R163. From REGADD's success on, the activation holds the entry that was pending. -/
theorem sound_scanFnAction (place : FnPlace) (bus : BusNo) (dev : DevNo) (fn : FnNo) (header : Byte) (c : ClassCode)
    (ret : Option Returned) :
    (scanFnAction place bus dev fn header c ret).Sound (.scanFn place bus dev fn header c) ret := by
  cases place
  case start => exact ⟨rfl, rfl, rfl, rfl, rfl, id, Nat.zero_le _⟩
  case classCode => exact sound_onClass rfl fun _ => ⟨rfl, rfl, rfl, rfl, rfl, id, Nat.zero_le _⟩
  case header =>
    exact sound_onValue rfl fun _ => ⟨⟨⟨bus, dev, fn, header, c, rfl⟩, rfl⟩, rfl, rfl, rfl, rfl, id, Nat.zero_le _⟩
  case add =>
    refine sound_onReturn rfl fun v hv => ?_
    subst hv
    exact ⟨rfl, rfl, rfl, rfl, rfl, id, Nat.le_refl 1⟩
  case bridge => exact sound_onTruth rfl ⟨rfl, rfl, rfl, rfl, rfl, id, Nat.le_refl 1⟩ sound_success
  case busNumbers => exact sound_onValue rfl fun _ => ⟨rfl, rfl, rfl, rfl, rfl, id, Nat.le_refl 1⟩
  case below => exact sound_onReturn rfl fun _ _ => sound_success

/-- What the innermost activation does next. -/
theorem sound_nextAction (a : Activation) (ret : Option Returned) : (nextAction a ret).Sound a ret := by
  cases a
  case scanAll => exact sound_scanAllAction _ _ _
  case scanBus => exact sound_scanBusAction _ _ _ _
  case scanDev => exact sound_scanDevAction _ _ _ _ _
  case scanFn => exact sound_scanFnAction _ _ _ _ _ _ _

theorem issues_of_nextAction {a a' : Activation} {ret : Option Returned} {i : Instr}
    (h : nextAction a ret = .issue i a') : Issues a ret i a' := by
  have hs := sound_nextAction a ret
  rwa [h] at hs

theorem finish_of_nextAction {a : Activation} {ret : Option Returned} {r : Returned}
    (h : nextAction a ret = .finish r) :
    r = .value 0 ∨ ∃ f, r = .failed f ∧ ret = some (.failed f) ∧ a.waitsFor = .result := by
  have hs := sound_nextAction a ret
  rwa [h] at hs

theorem nextAction_ne_lost {a : Activation} {ret : Option Returned} {count : BitVec 6}
    (h : a.waitsFor.fits ret count = true) : nextAction a ret ≠ .lost := by
  intro hlost
  have hs := sound_nextAction a ret
  rw [hlost] at hs
  exact Bool.false_ne_true ((hs count).symm.trans h)

/-- An activation that waits for a result ends at once with a failing kind (R164). -/
theorem nextAction_of_failed {a : Activation} (hw : a.waitsFor = .result) (f : Failure) :
    nextAction a (some (.failed f)) = .finish (.failed f) := by
  match a, hw with
  | .scanAll .reset _, _ | .scanAll .root _, _ | .scanAll .segment _, _ => rfl
  | .scanBus .device _ _, _ => rfl
  | .scanDev .first _ _ _, _ | .scanDev .function _ _ _, _ => rfl
  | .scanFn .add _ _ _ _ _, _ | .scanFn .below _ _ _ _ _, _ => rfl

end Sys2Proof.Machine
end

/-! ## The invariant of the engine (spec/10_state.md R31, spec/43_scanner.md R164, R168) -/

section

namespace Sys2Proof.Machine

/-! ### What an issued operation does -/

/-- REGRESET, issued by a rule (R140). -/
theorem exec_regreset_of_ne_nil {s : State} (h : s.cursor ≠ []) :
    exec .regreset s = .next { s with regCount := 0, ret := some (.value 0) } := by
  show Host.Outcome.next (s.internally (State.complete s.regReset)) = _
  rw [s.internally_rule _ h, State.complete, State.deliver_rule _ _ (by exact h)]
  rfl

/-- REGADD, issued by a rule (R141). -/
theorem exec_regadd_of_ne_nil {s : State} (d : Device) (h : s.cursor ≠ []) :
    exec (.regadd d) s = .next { (s.regAdd d).2 with ret := some (s.regAdd d).1 } := by
  show Host.Outcome.next (s.internally (State.complete (s.regAdd d))) = _
  rw [s.internally_rule _ h, State.complete, State.deliver_rule _ _ (by rwa [State.regAdd_cursor])]

/-- An activation that has issued nothing yet, as SCANBUS, SCANDEV and SCANFN put it on the cursor. -/
structure Activation.Fresh (b : Activation) : Prop where
  waitsFor : b.waitsFor = .nothing
  inRange : b.inRange = true
  hasAdded : b.hasAdded = false
  isAdding : b.isAdding = false

/-- What an operation that a rule issued does (log 3): it answers what the activation waits for, or is REGRESET, or
REGADD, or puts the procedure that the activation calls on the cursor. -/
theorem exec_issued {i : Instr} {a a' : Activation} {rest : List Activation} {s : State} (hi : IssuedBy i a a')
    (hc : s.cursor = a' :: rest) :
    (∃ r, exec i s = .next { s.afterPort i with ret := some r } ∧
      a'.waitsFor ≠ .result ∧ ∀ n, a'.waitsFor.fits (some r) n = true) ∨
    (∃ f, a = .scanAll .start f ∧ a' = .scanAll .reset f ∧
      exec i s = .next { s with regCount := 0, ret := some (.value 0) }) ∨
    (∃ d, a'.isAdding = true ∧ exec i s = .next { (s.regAdd d).2 with ret := some (s.regAdd d).1 }) ∨
    (∃ b : Activation, a'.calls b = true ∧ b.Fresh ∧ exec i s = .next (s.call b)) := by
  have hne : s.cursor ≠ [] := hc ▸ List.cons_ne_nil a' rest
  have rule (r : Returned) : (s.afterPort i).deliver r = { s.afterPort i with ret := some r } :=
    State.deliver_rule _ r (by rwa [State.afterPort_cursor])
  cases i
  case rdvendor | rdhdr | rdbusnum =>
    have hw : a'.waitsFor = .value := hi
    exact .inl ⟨.value _, congrArg _ (rule _), by simp [hw], fun n => by simp [hw, Wait.fits, isValue]⟩
  case rdclass =>
    have hw : a'.waitsFor = .classCode := hi
    exact .inl ⟨.classCode _, congrArg _ (rule _), by simp [hw], fun n => by simp [hw, Wait.fits, isClass]⟩
  case ccmatch2 | issingle =>
    have hw : a'.waitsFor = .truth := hi
    exact .inl ⟨.truth _, congrArg _ (s.internally_deliver_rule _ hne), by simp [hw],
      fun n => by simp [hw, Wait.fits, isTruth]⟩
  case regreset =>
    obtain ⟨f, ha, ha'⟩ := hi
    exact .inr (.inl ⟨f, ha, ha', exec_regreset_of_ne_nil hne⟩)
  case regadd d => exact .inr (.inr (.inl ⟨d, hi.2, exec_regadd_of_ne_nil d hne⟩))
  case scanbus | scandev | scanfn =>
    exact .inr (.inr (.inr ⟨_, hi, ⟨rfl, rfl, rfl, rfl⟩, congrArg _ (s.internally_rule _ hne)⟩))
  all_goals nomatch hi

/-! ### The terms of the invariant -/

theorem State.inv_idle_iff {s : State} (hr : s.run = .idle) :
    s.Inv ↔ s.regCount.toNat ≤ 32 ∧ Memory.wf s.cfg = true ∧ s.cursor = [] ∧ s.ret = none := by
  simp [State.Inv, hr]

theorem State.inv_busy_iff {s : State} (hr : s.run = .busy) :
    s.Inv ↔ s.regCount.toNat ≤ 32 ∧ Memory.wf s.cfg = true ∧ cursorLinked s.cursor = true ∧
      s.cursor.all Activation.inRange = true ∧ headFits s.cursor s.ret s.regCount = true ∧
      entriesHeld s.cursor s.ret ≤ s.regCount.toNat := by
  simp [State.Inv, hr]

/-- Only SCANFN's wait for REGADD is an adding one, and it is a wait for a result. -/
theorem waitsFor_of_isAdding {a : Activation} (h : a.isAdding = true) : a.waitsFor = .result := by
  cases a
  case scanFn place bus dev fn header c =>
    obtain rfl : place = .add := eq_of_beq h
    rfl
  all_goals nomatch h

theorem addPending_of_not_isAdding {a : Activation} (h : a.isAdding = false) (rest : List Activation)
    (ret : Option Returned) : addPending (a :: rest) ret = 0 := by
  simp [addPending, h]

theorem entriesHeld_cons (a : Activation) (rest : List Activation) (ret : Option Returned) :
    entriesHeld (a :: rest) ret = entriesHeld [a] ret + rest.countP Activation.hasAdded := by
  simp only [entriesHeld, addPending, List.countP_cons, List.countP_nil]
  omega

@[simp] theorem cursorLinked_singleton (a : Activation) : cursorLinked [a] = a.isScanAll := by
  simp [cursorLinked]

@[simp] theorem cursorLinked_cons_cons (a b : Activation) (rest : List Activation) :
    cursorLinked (a :: b :: rest) = (b.calls a && cursorLinked (b :: rest)) := by
  rw [cursorLinked]

/-- A caller names its callee by the arguments of R31. -/
theorem calls_congr {a a' : Activation} (hbus : a'.busArgument = a.busArgument)
    (hdev : a'.devArgument = a.devArgument) (hfn : a'.fnArgument = a.fnArgument) (b : Activation) :
    b.calls a' = b.calls a := by
  cases b <;> simp only [Activation.calls, hbus, hdev, hfn]

/-- The callers: each waits for a result, that of the procedure it called and not REGADD's; and SCANBUS is called by
SCANALL or by a SCANFN that holds an entry (R168). -/
theorem of_calls {a b : Activation} (h : b.calls a = true) :
    b.waitsFor = .result ∧ b.isAdding = false ∧ a.isScanAll = false ∧
    (a.isScanBus = true → b.isScanAll = true ∨ b.hasAdded = true) := by
  cases b with
  | scanAll place f =>
    cases a <;> simp_all [Activation.calls, Activation.busArgument, Activation.isAdding, Activation.isScanAll]
    rcases h with ⟨rfl, -⟩ | ⟨rfl, -⟩ <;> rfl
  | scanBus place bus d =>
    cases a <;> simp_all [Activation.calls, Activation.devArgument, Activation.isAdding, Activation.isScanAll,
      Activation.isScanBus, Activation.busArgument, Activation.waitsFor]
  | scanDev place bus dev f =>
    cases a <;> simp_all [Activation.calls, Activation.fnArgument, Activation.isAdding, Activation.isScanAll,
      Activation.isScanBus, Activation.busArgument]
    rcases h with ⟨rfl, -⟩ | ⟨rfl, -⟩ <;> rfl
  | scanFn place bus dev fn header c =>
    cases a <;> simp_all [Activation.calls, Activation.busArgument, Activation.isAdding, Activation.isScanAll,
      Activation.waitsFor, Activation.hasAdded, FnPlace.afterAdd]

/-- SCANALL's activation is nobody's callee, so it is the last one. -/
theorem eq_nil_of_linked_scanAll {a : Activation} {rest : List Activation} (h : cursorLinked (a :: rest) = true)
    (ha : a.isScanAll = true) : rest = [] := by
  cases rest with
  | nil => rfl
  | cons b rest =>
    rw [cursorLinked_cons_cons, Bool.and_eq_true] at h
    nomatch ha.symm.trans (of_calls h.1).2.2.1

/-! ### Every step keeps the invariant -/

theorem State.wf_afterPort (s : State) (i : Instr) (h : Memory.wf s.cfg = true) :
    Memory.wf (s.afterPort i).cfg = true :=
  State.afterPort_induct (P := fun t => Memory.wf t.cfg = true) State.wf_ioWriteAddr State.wf_ioReadData
    State.wf_ioWriteData s i h

/-- What the cursor must meet between the parts of a step, when the innermost activation has issued its operation
and waits: the invariant's clauses on the cursor, without the return. -/
structure State.Waiting (s : State) (a : Activation) (rest : List Activation) : Prop where
  run : s.run = .busy
  cursor : s.cursor = a :: rest
  ret : s.ret = none
  count : s.regCount.toNat ≤ 32
  wf : Memory.wf s.cfg = true
  linked : cursorLinked (a :: rest) = true
  inRange : (a :: rest).all Activation.inRange = true
  held : entriesHeld (a :: rest) none ≤ s.regCount.toNat

/-- The arguments of an activation stay, so that it stays linked to its caller. -/
theorem Issues.linked {a a' : Activation} {ret : Option Returned} {i : Instr} (h : Issues a ret i a')
    {rest : List Activation} (hl : cursorLinked (a :: rest) = true) : cursorLinked (a' :: rest) = true := by
  cases rest with
  | nil => rwa [cursorLinked_singleton, h.isScanAll, ← cursorLinked_singleton]
  | cons b rest => rwa [cursorLinked_cons_cons, calls_congr h.busArgument h.devArgument h.fnArgument,
      ← cursorLinked_cons_cons]

/-- From a state with the invariant the innermost activation issues its operation and waits. -/
theorem State.Inv.waiting {s : State} (h : s.Inv) (hr : s.run = .busy) {a a' : Activation} {rest : List Activation}
    {i : Instr} (hc : s.cursor = a :: rest) (hi : Issues a s.ret i a') :
    State.Waiting { s with cursor := a' :: rest, ret := none } a' rest := by
  obtain ⟨hcount, hwf, hlinked, hrange, -, hheld⟩ := (State.inv_busy_iff hr).mp h
  rw [hc] at hlinked hrange hheld
  rw [List.all_cons, Bool.and_eq_true] at hrange
  refine ⟨hr, rfl, rfl, hcount, hwf, hi.linked hlinked, ?_, ?_⟩
  · rw [List.all_cons, hi.inRange hrange.1, hrange.2, Bool.and_true]
  · have := hi.held
    rw [entriesHeld_cons] at hheld ⊢
    show _ ≤ s.regCount.toNat
    omega

theorem State.Waiting.inv_of_answer {s : State} {a : Activation} {rest : List Activation} (h : s.Waiting a rest)
    (i : Instr) {r : Returned} (hw : a.waitsFor ≠ .result) (hf : ∀ n, a.waitsFor.fits (some r) n = true) :
    State.Inv { s.afterPort i with ret := some r } := by
  have hadd : a.isAdding = false := Bool.eq_false_iff.mpr (mt waitsFor_of_isAdding hw)
  have hrun : (s.afterPort i).run = .busy := (s.afterPort_run i).trans h.run
  refine (State.inv_busy_iff (s := { s.afterPort i with ret := some r }) hrun).mpr ?_
  simp only [State.afterPort_regCount, State.afterPort_cursor, h.cursor]
  refine ⟨h.count, s.wf_afterPort i h.wf, h.linked, h.inRange, hf _, ?_⟩
  have hheld := h.held
  simp only [entriesHeld, addPending_of_not_isAdding hadd] at hheld ⊢
  exact hheld

theorem State.Waiting.inv_of_reset {s : State} {f : Nat} {rest : List Activation}
    (h : s.Waiting (.scanAll .reset f) rest) : State.Inv { s with regCount := 0, ret := some (.value 0) } := by
  have hlast : rest = [] := eq_nil_of_linked_scanAll h.linked rfl
  subst hlast
  refine (State.inv_busy_iff (s := { s with regCount := 0, ret := some (.value 0) }) h.run).mpr ?_
  simp only [h.cursor]
  exact ⟨Nat.zero_le _, h.wf, h.linked, h.inRange, rfl, Nat.le_refl 0⟩

theorem State.Waiting.inv_of_add {s : State} {a : Activation} {rest : List Activation} (h : s.Waiting a rest)
    (hadd : a.isAdding = true) (d : Device) :
    State.Inv { (s.regAdd d).2 with ret := some (s.regAdd d).1 } := by
  have hw : a.waitsFor = .result := waitsFor_of_isAdding hadd
  by_cases hfull : s.regCount = 32
  · rw [s.regAdd_full d hfull]
    refine (State.inv_busy_iff (s := { s with ret := some (.failed .full) }) h.run).mpr ?_
    simp only [h.cursor]
    refine ⟨h.count, h.wf, h.linked, h.inRange, ?_, ?_⟩
    · simp [headFits, hw, Wait.fits, hfull]
    · simpa [entriesHeld, addPending, isValue] using h.held
  · rw [s.regAdd_append d hfull]
    refine (State.inv_busy_iff (s := { s with
      regEntry := s.regEntry.setIfInBounds s.regCount.toNat d
      regCount := s.regCount + 1, ret := some (.value 0) }) h.run).mpr ?_
    simp only [h.cursor]
    have hlt : s.regCount.toNat < 32 := by
      have := h.count
      have : s.regCount.toNat ≠ 32 := fun he => hfull (BitVec.eq_of_toNat_eq he)
      omega
    have hsucc : (s.regCount + 1).toNat = s.regCount.toNat + 1 := by bv_omega
    refine ⟨by omega, h.wf, h.linked, h.inRange, ?_, ?_⟩
    · simp [headFits, hw, Wait.fits, isValue]
    · have hheld := h.held
      simp only [entriesHeld, addPending, hadd, isValue, hsucc] at hheld ⊢
      simpa using hheld

theorem State.Waiting.inv_of_call {s : State} {a b : Activation} {rest : List Activation} (h : s.Waiting a rest)
    (hcalls : a.calls b = true) (hb : b.Fresh) : (s.call b).Inv := by
  refine (State.inv_busy_iff (s := s.call b) h.run).mpr ?_
  have hheld := h.held
  simp only [State.call_cursor, State.call_ret, State.call_regCount, State.call_cfg, h.cursor]
  refine ⟨h.count, h.wf, ?_, ?_, ?_, ?_⟩
  · rw [cursorLinked_cons_cons, hcalls, h.linked, Bool.and_true]
  · rw [List.all_cons, hb.inRange, h.inRange, Bool.and_true]
  · simp [headFits, hb.waitsFor, Wait.fits]
  · rw [entriesHeld_cons]
    simp only [entriesHeld, addPending_of_not_isAdding hb.isAdding, List.countP_cons, List.countP_nil, hb.hasAdded]
      at hheld ⊢
    simp at hheld ⊢
    omega

theorem State.Inv.issue {s t : State} (h : s.Inv) (hr : s.run = .busy) {a a' : Activation} {rest : List Activation}
    {i : Instr} (hc : s.cursor = a :: rest) (hi : Issues a s.ret i a')
    (he : exec i { s with cursor := a' :: rest, ret := none } = .next t) : t.Inv := by
  have hwait := h.waiting hr hc hi
  rcases exec_issued hi.issued hwait.cursor with ⟨r, he', hw, hf⟩ | ⟨f, -, rfl, he'⟩ | ⟨d, hadd, he'⟩ |
    ⟨b, hcalls, hb, he'⟩ <;> obtain rfl := Host.Outcome.next.inj (he'.symm.trans he)
  · exact hwait.inv_of_answer i hw hf
  · exact hwait.inv_of_reset
  · exact hwait.inv_of_add hadd d
  · exact hwait.inv_of_call hcalls hb

/-- Where the innermost activation's failing kind comes from: it can only be `Full`, with a full registry (R164,
R191). -/
theorem State.Inv.full_of_failed {s : State} (h : s.Inv) (hr : s.run = .busy) {a : Activation}
    {rest : List Activation} (hc : s.cursor = a :: rest) {f : Failure} (hret : s.ret = some (.failed f)) :
    a.waitsFor = .result ∧ f = .full ∧ s.regCount = 32 := by
  obtain ⟨-, -, -, -, hfits, -⟩ := (State.inv_busy_iff hr).mp h
  rw [hc, hret] at hfits
  change a.waitsFor.fits _ _ = true at hfits
  cases hw : a.waitsFor <;> rw [hw] at hfits
  case result => simpa [Wait.fits, isValue] using hfits
  all_goals nomatch hfits

/-- The innermost activation ends with a success, or with `Full` where the registry is full. -/
theorem State.Inv.finish_cases {s : State} (h : s.Inv) (hr : s.run = .busy) {a : Activation}
    {rest : List Activation} {r : Returned} (hc : s.cursor = a :: rest) (hf : nextAction a s.ret = .finish r) :
    r = .value 0 ∨ (r = .failed .full ∧ s.ret = some (.failed .full) ∧ s.regCount = 32) := by
  rcases finish_of_nextAction hf with hv | ⟨f, hrf, hret, -⟩
  · exact .inl hv
  · obtain ⟨-, rfl, hcount⟩ := h.full_of_failed hr hc hret
    exact .inr ⟨hrf, hret, hcount⟩

theorem State.Inv.finish {s : State} (h : s.Inv) (hr : s.run = .busy) {a : Activation} {rest : List Activation}
    {r : Returned} (hc : s.cursor = a :: rest) (hf : nextAction a s.ret = .finish r) : (s.finish r).Inv := by
  obtain ⟨hcount, hwf, hlinked, hrange, -, hheld⟩ := (State.inv_busy_iff hr).mp h
  cases rest with
  | nil =>
    rw [s.finish_last r (by rw [hc]; rfl)]
    exact (State.inv_idle_iff rfl).mpr ⟨hcount, hwf, rfl, rfl⟩
  | cons b rest =>
    rw [s.finish_caller r b rest (by rw [hc]; rfl)]
    rw [hc] at hlinked hrange hheld
    rw [cursorLinked_cons_cons, Bool.and_eq_true] at hlinked
    rw [List.all_cons, Bool.and_eq_true] at hrange
    obtain ⟨hw, hadd, -, -⟩ := of_calls hlinked.1
    refine (State.inv_busy_iff (s := { s with cursor := b :: rest, ret := some r }) hr).mpr
      ⟨hcount, hwf, hlinked.2, hrange.2, ?_, ?_⟩
    · rcases h.finish_cases hr hc hf with rfl | ⟨rfl, -, hfull⟩
      · simp [headFits, hw, Wait.fits, isValue]
      · simp [headFits, hw, Wait.fits, hfull]
    · rw [entriesHeld_cons] at hheld
      simp only [entriesHeld, addPending_of_not_isAdding hadd]
      omega

/-- A command's one step, and SCANALL's acceptance, keep the invariant. -/
theorem State.Inv.command {s t : State} (h : s.Inv) (hr : s.run = .idle) {w : Word64} {rest : List Word64}
    (hc : s.commands = w :: rest) (hs : step s = .next t) : t.Inv := by
  obtain ⟨hcount, hwf, hcursor, hret⟩ := (State.inv_idle_iff hr).mp h
  by_cases hop : opField w = 0x0D
  · obtain rfl := Host.Outcome.next.inj ((step_of_scanall hr hc hop).symm.trans hs)
    exact (State.inv_busy_iff rfl).mpr ⟨hcount, hwf, rfl, rfl, rfl, Nat.zero_le _⟩
  · obtain ⟨i, r, rfl, -⟩ := step_of_command hr hc hop hs
    exact (State.inv_idle_iff rfl).mpr
      ⟨by simpa using hcount, State.wf_afterPort _ i hwf, by simp, by simpa using hret⟩

/-- Settles O56: an Idle engine's step is a command's or changes nothing, a Busy one's issues an operation or ends
an activation. -/
theorem everyStepKeepsTheInvariant : Obligations.EveryStepKeepsTheInvariant := by
  intro s t h hs
  rcases step_next_cases s t hs with ⟨-, -, rfl⟩ | ⟨w, rest, i, hr, hc, -⟩ | ⟨w, rest, op, hr, hc, -⟩ |
    ⟨a, a', rest, i, hr, hc, ha, he⟩ | ⟨a, rest, r, hr, hc, ha, rfl⟩
  · exact h
  · exact h.command hr hc hs
  · exact h.command hr hc hs
  · exact h.issue hr hc (issues_of_nextAction ha) he
  · exact h.finish hr hc ha

/-- Settles O57. -/
theorem resetMeetsTheInvariants : Obligations.ResetMeetsTheInvariants :=
  ⟨(State.inv_idle_iff rfl).mpr ⟨Nat.zero_le _, State.wf_reset, rfl, rfl⟩, ⟨rfl, nofun⟩, rfl⟩

/-! ### What follows from the invariant -/

/-- Settles O58: an Idle engine waits or runs a command, and a Busy one has an activation, which finds what it
waits for. -/
theorem engineNeverStops : Obligations.EngineNeverStops := by
  intro s h
  cases hr : s.run with
  | idle =>
    cases hc : s.commands with
    | nil => exact ⟨s, step_wait s hr hc⟩
    | cons w rest =>
      cases hd : decode w with
      | command i => exact step_command s w rest i hr hc hd ▸ exec_isNext i _
      | illegal op => exact ⟨_, step_illegal s w rest op hr hc hd⟩
  | busy =>
    obtain ⟨-, -, -, -, hfits, -⟩ := (State.inv_busy_iff hr).mp h
    cases hc : s.cursor with
    | nil => simp [hc, headFits] at hfits
    | cons a rest =>
      rw [hc] at hfits
      cases ha : nextAction a s.ret with
      | issue i a' => exact step_issue s a a' rest i hr hc ha ▸ exec_isNext i _
      | finish r => exact ⟨_, step_finish s a rest r hr hc ha⟩
      | lost => exact absurd ha (nextAction_ne_lost hfits)

/-- Along a linked cursor every SCANBUS but one is called by a SCANFN that holds an entry (R168). -/
theorem busDepth_le_of_linked (a : Activation) (rest : List Activation) (h : cursorLinked (a :: rest) = true) :
    busDepth (a :: rest) + (if a.isScanAll then 1 else 0) ≤ rest.countP Activation.hasAdded + 1 := by
  have apart (c : Activation) (hc : c.isScanAll = true) : c.isScanBus = false := by
    cases c
    case scanAll => rfl
    all_goals nomatch hc
  induction rest generalizing a with
  | nil =>
    have hall : a.isScanAll = true := h
    simp [busDepth, hall, apart a hall]
  | cons b rest ih =>
    rw [cursorLinked_cons_cons, Bool.and_eq_true] at h
    obtain ⟨-, -, hall, hbus⟩ := of_calls h.1
    have hb := ih b h.2
    simp only [busDepth, List.countP_cons, hall] at hb ⊢
    cases ha : a.isScanBus
    · simp
      omega
    · rcases hbus ha with h1 | h1
      · simp [h1, apart b h1] at hb ⊢
        omega
      · simp [h1] at hb ⊢
        omega

/-- Settles O59: the entries held are at most the 32 of the registry. -/
theorem atMostThirtyThreeScanbusActivations : Obligations.AtMostThirtyThreeScanbusActivations := by
  intro s h
  cases hr : s.run with
  | idle =>
    obtain ⟨-, -, hcursor, -⟩ := (State.inv_idle_iff hr).mp h
    simp [hcursor, busDepth]
  | busy =>
    obtain ⟨hcount, -, hlinked, -, -, hheld⟩ := (State.inv_busy_iff hr).mp h
    cases hc : s.cursor with
    | nil => simp [busDepth]
    | cons a rest =>
      rw [hc] at hlinked hheld
      have hdepth := busDepth_le_of_linked a rest hlinked
      rw [entriesHeld_cons] at hheld
      show _ ≤ 33
      omega

end Sys2Proof.Machine
end

/-! ## The registry (spec/42_registry.md R140 to R143, R148) -/

section

namespace Sys2Proof.Machine

/-- The valid entries after an append at the count (R141). -/
theorem State.entries_append {s : State} (d : Device) (h : s.regCount.toNat < 32) :
    State.entries { s with
      regEntry := s.regEntry.setIfInBounds s.regCount.toNat d, regCount := s.regCount + 1 } = s.entries ++ [d] := by
  have hsucc : (s.regCount + 1).toNat = s.regCount.toNat + 1 := by bv_omega
  simp only [State.entries, hsucc, Vector.toList_setIfInBounds]
  rw [List.take_succ_eq_append_getElem (by simpa using h), List.take_set_of_le (Nat.le_refl _)]
  simp

/-- A valid entry is one of the 32, below the count (R24). -/
theorem State.entry_of_entries {s : State} {i : Nat} {d : Device} (h : s.entries[i]? = some d) :
    i < s.regCount.toNat ∧ s.entry i = d := by
  simp only [State.entries, List.getElem?_take] at h
  split at h
  · refine ⟨by assumption, ?_⟩
    simp only [State.entry]
    simp at h
    simp [h]
  · nomatch h

/-- The packed entry, field by field (R83, R84). -/
theorem packDevice_eq (d : Device) : packDevice d =
    0#8 ++ d.bus ++ d.device ++ d.function ++ d.headerType ++ d.classCode.base ++ d.classCode.sub ++
      d.classCode.interface ++ 0#8 := by
  apply BitVec.eq_of_toNat_eq
  simp only [packDevice, packClass, BitVec.toNat_append, Nat.shiftLeft_or_distrib, ← Nat.shiftLeft_add, Nat.or_assoc]

/-- Settles O32: only SCANALL's first line issues REGRESET. -/
theorem regresetClearsOnlyTheCount : Obligations.RegresetClearsOnlyTheCount := by
  intro s
  refine ⟨rfl, exec_regreset_of_ne_nil, fun hc => ?_, fun a a' ret h => ?_⟩
  · rw [exec_internal_of_cursor_nil rfl s hc, s.deliver_host _ hc, State.badCommand]
  · obtain ⟨f, ha, -⟩ := (issues_of_nextAction h).issued
    exact ⟨f, ha⟩

/-- Settles O33: at 32 the append is refused, below 32 it is the next entry; only SCANFN issues REGADD. -/
theorem regaddAppendsOrIsFull : Obligations.RegaddAppendsOrIsFull := by
  intro s d
  refine ⟨rfl, fun hne hfull => ?full, fun hne hlt => ?append, fun hc => ?host, fun a a' ret h => ?caller⟩
  case full => rw [exec_regadd_of_ne_nil d hne, s.regAdd_full d hfull]
  case append =>
    have hnot : s.regCount ≠ 32 := by
      intro he
      rw [he] at hlt
      exact absurd hlt (by decide)
    refine ⟨_, exec_regadd_of_ne_nil d hne, ?_⟩
    rw [s.regAdd_append d hnot]
    refine ⟨rfl, ?_, s.entries_append d hlt, fun i hi => ?_⟩
    · show (s.regCount + 1).toNat = _
      bv_omega
    · exact Vector.getElem?_setIfInBounds_ne (Ne.symm hi)
  case host => rw [exec_internal_of_cursor_nil rfl s hc, s.deliver_host _ hc, State.badCommand]
  case caller => exact (issues_of_nextAction h).issued.1

/-- Settles O34. -/
theorem regcntReturnsTheCount : Obligations.RegcntReturnsTheCount := fun _ => rfl

/-- REGRD is the return of what the registry answers (R143). -/
theorem exec_regrd (index : Byte) (s : State) : exec (.regrd index) s = .next (State.complete (s.regRead index)) := rfl

/-- Settles O35. -/
theorem regrdReturnsThePackedEntry : Obligations.RegrdReturnsThePackedEntry := by
  intro s index d _ h
  obtain ⟨hlt, hentry⟩ := State.entry_of_entries h
  rw [exec_regrd, s.regRead_below index hlt, hentry, packDevice_eq, State.complete]

/-- Settles O36. -/
theorem regrdRefusesAnIndexBeyondTheCount : Obligations.RegrdRefusesAnIndexBeyondTheCount := by
  intro s index h
  rw [exec_regrd, s.regRead_beyond index h, State.complete]

/-- A command word as the or of its shifted fields (R81). -/
theorem commandWord_eq_or (op : Byte) (bus : BusNo) (dev : DevNo) (fn : FnNo) (arg : Byte) (data : Word) :
    commandWord op bus dev fn arg data =
      op.setWidth 64 <<< 56 ||| bus.setWidth 64 <<< 48 ||| dev.setWidth 64 <<< 43 ||| fn.setWidth 64 <<< 40 |||
        arg.setWidth 64 <<< 32 ||| data.setWidth 64 := by
  rw [← BitVec.setWidth_eq (commandWord op bus dev fn arg data), commandWord,
    setWidth_append_eq_shiftLeft_or 64 _ data, setWidth_append_eq_shiftLeft_or 64 _ arg,
    setWidth_append_eq_shiftLeft_or 64 _ fn, setWidth_append_eq_shiftLeft_or 64 _ dev,
    setWidth_append_eq_shiftLeft_or 64 _ bus]
  simp only [BitVec.shiftLeft_or_distrib, ← BitVec.shiftLeft_add, Nat.reduceAdd]

/-- Bits 55:40 of a command word are the bus, the device and the function (R81). -/
theorem commandWord_and_mask (op : Byte) (bus : BusNo) (dev : DevNo) (fn : FnNo) (arg : Byte) (data : Word) :
    commandWord op bus dev fn arg data &&& ((0x00FFFF0000000000 : Nat) : Word64) =
      commandWord 0 bus dev fn 0 0 := by
  have mask : ((0x00FFFF0000000000 : Nat) : Word64) =
      commandWord 0 (BitVec.allOnes 8) (BitVec.allOnes 5) (BitVec.allOnes 3) 0 0 := by decide
  rw [mask]
  unfold commandWord
  rw [BitVec.and_append, BitVec.and_append, BitVec.and_append, BitVec.and_append, BitVec.and_append,
    BitVec.and_allOnes, BitVec.and_allOnes, BitVec.and_allOnes]
  simp only [BitVec.ofNat_eq_ofNat, BitVec.and_zero]

/-- A packed entry is a command word with op 0, the header type as its arg and the class code as its data (R83). -/
theorem packDevice_eq_commandWord (d : Device) :
    packDevice d = commandWord 0 d.bus d.device d.function d.headerType (packClass d.classCode) := rfl

/-- Settles O37: the mask leaves the function's fields, and the others are or-ed in where a command word has them. -/
theorem readOutEntryNamesItsFunctionAsACommandDoes : Obligations.ReadOutEntryNamesItsFunctionAsACommandDoes := by
  intro d op arg data w
  have masked : w = commandWord 0 d.bus d.device d.function 0 0 ||| op.setWidth 64 <<< 56 |||
      arg.setWidth 64 <<< 32 ||| data.setWidth 64 := by
    rw [← commandWord_and_mask, ← packDevice_eq_commandWord]
  refine ⟨masked.trans ?_, by rw [packDevice_eq_commandWord, argField_commandWord]⟩
  rw [commandWord_eq_or, commandWord_eq_or op]
  simp only [BitVec.ofNat_eq_ofNat, BitVec.setWidth_zero, BitVec.zero_shiftLeft, BitVec.zero_or, BitVec.or_zero]
  rw [BitVec.or_comm _ (op.setWidth 64 <<< 56), ← BitVec.or_assoc, ← BitVec.or_assoc]

theorem State.entries_congr {s t : State} (hc : t.regCount = s.regCount) (he : t.regEntry = s.regEntry) :
    t.entries = s.entries := by
  rw [State.entries, State.entries, hc, he]

theorem State.entries_isPrefix_of_same {s t : State} (hc : t.regCount = s.regCount) (he : t.regEntry = s.regEntry) :
    s.entries <+: t.entries := by
  rw [State.entries_congr hc he]

/-- REGADD keeps the entries before it (R141). -/
theorem State.regAdd_entries (s : State) (d : Device) (h : s.regCount.toNat ≤ 32) :
    s.entries <+: (s.regAdd d).2.entries := by
  by_cases hfull : s.regCount = 32
  · rw [s.regAdd_full d hfull]
  · have hlt : s.regCount.toNat < 32 :=
      Nat.lt_of_le_of_ne h fun he => hfull (BitVec.eq_of_toNat_eq he)
    rw [s.regAdd_append d hfull, s.entries_append d hlt]
    exact List.prefix_append _ _

/-- Settles O41: of the operations that a rule issues only REGADD, which appends, and SCANALL's REGRESET touch the
registry. -/
theorem registryIsAppendOnlyButForItsReset : Obligations.RegistryIsAppendOnlyButForItsReset := by
  intro s t h hs
  have idle (hr : s.run = .idle) : s.entries <+: t.entries := by
    obtain ⟨hcount, hentry⟩ := registryChangesOnlyWhileAScanRuns s t hr hs
    exact State.entries_isPrefix_of_same hcount hentry
  rcases step_next_cases s t hs with ⟨hr, -⟩ | ⟨w, rest, i, hr, -⟩ | ⟨w, rest, op, hr, -⟩ |
    ⟨a, a', rest, i, hr, hc, ha, he⟩ | ⟨a, rest, r, hr, hc, ha, rfl⟩
  · exact .inl (idle hr)
  · exact .inl (idle hr)
  · exact .inl (idle hr)
  · have hi := issues_of_nextAction ha
    have hwait := h.waiting hr hc hi
    rcases exec_issued hi.issued hwait.cursor with ⟨r, he', -⟩ | ⟨f, rfl, rfl, he'⟩ | ⟨d, -, he'⟩ | ⟨b, -, -, he'⟩ <;>
      obtain rfl := Host.Outcome.next.inj (he'.symm.trans he)
    · exact .inl (State.entries_isPrefix_of_same (State.afterPort_regCount _ i) (State.afterPort_regEntry _ i))
    · exact .inr ⟨⟨f, by rw [hc, eq_nil_of_linked_scanAll hwait.linked rfl]⟩, rfl⟩
    · exact .inl (State.regAdd_entries _ d hwait.count)
    · exact .inl List.prefix_rfl
  · exact .inl (State.entries_isPrefix_of_same (s.finish_regCount r) (s.finish_regEntry r))

end Sys2Proof.Machine
end

/-! ## Address words (spec/40_address_codec.md R110, R111; spec/20_memory.md R67) -/

section

namespace Sys2Proof.Machine

open BitVec (extractLsb'_append_eq_of_le extractLsb'_append_eq_of_add_le extractLsb'_eq_self
  extractLsb'_append_extractLsb'_eq_extractLsb')

/-- Appended fields, read as a number. -/
theorem toNat_append_eq_add {m n : Nat} (x : BitVec m) (y : BitVec n) :
    (x ++ y).toNat = x.toNat * 2 ^ n + y.toNat := by
  rw [BitVec.toNat_append, ← Nat.shiftLeft_add_eq_or_of_lt y.isLt, Nat.shiftLeft_eq]

/-- The enable bit is set and the bits below it are 0 (R80). -/
theorem encodeAddress_top (bus : BusNo) (dev : DevNo) (fn : FnNo) (offset : Byte) :
    (encodeAddress bus dev fn offset).getLsbD 31 = true ∧
    (encodeAddress bus dev fn offset).extractLsb' 24 7 = 0#7 := by
  constructor
  · rw [encodeAddress, BitVec.getLsbD_append, BitVec.getLsbD_append, BitVec.getLsbD_append, BitVec.getLsbD_append,
      BitVec.getLsbD_append, BitVec.getLsbD_append]
    rfl
  · rw [encodeAddress, extractLsb'_append_eq_of_le (by decide), extractLsb'_append_eq_of_le (by decide),
      extractLsb'_append_eq_of_le (by decide), extractLsb'_append_eq_of_le (by decide),
      extractLsb'_append_eq_of_le (by decide), extractLsb'_append_eq_of_add_le (by decide), extractLsb'_eq_self]

theorem encodeAddress_bus (bus : BusNo) (dev : DevNo) (fn : FnNo) (offset : Byte) :
    (encodeAddress bus dev fn offset).extractLsb' 16 8 = bus := by
  rw [encodeAddress, extractLsb'_append_eq_of_le (by decide), extractLsb'_append_eq_of_le (by decide),
    extractLsb'_append_eq_of_le (by decide), extractLsb'_append_eq_of_le (by decide),
    extractLsb'_append_eq_of_add_le (by decide), extractLsb'_eq_self]

theorem encodeAddress_dev (bus : BusNo) (dev : DevNo) (fn : FnNo) (offset : Byte) :
    (encodeAddress bus dev fn offset).extractLsb' 11 5 = dev := by
  rw [encodeAddress, extractLsb'_append_eq_of_le (by decide), extractLsb'_append_eq_of_le (by decide),
    extractLsb'_append_eq_of_le (by decide), extractLsb'_append_eq_of_add_le (by decide), extractLsb'_eq_self]

theorem encodeAddress_fn (bus : BusNo) (dev : DevNo) (fn : FnNo) (offset : Byte) :
    (encodeAddress bus dev fn offset).extractLsb' 8 3 = fn := by
  rw [encodeAddress, extractLsb'_append_eq_of_le (by decide), extractLsb'_append_eq_of_le (by decide),
    extractLsb'_append_eq_of_add_le (by decide), extractLsb'_eq_self]

theorem encodeAddress_word (bus : BusNo) (dev : DevNo) (fn : FnNo) (offset : Byte) :
    (encodeAddress bus dev fn offset).extractLsb' 2 6 = offset.extractLsb' 2 6 := by
  rw [encodeAddress, extractLsb'_append_eq_of_le (by decide), extractLsb'_append_eq_of_add_le (by decide),
    extractLsb'_eq_self]

theorem encodeAddress_low (bus : BusNo) (dev : DevNo) (fn : FnNo) (offset : Byte) :
    (encodeAddress bus dev fn offset).extractLsb' 0 2 = 0#2 := by
  rw [encodeAddress, extractLsb'_append_eq_of_add_le (by decide), extractLsb'_eq_self]

/-- What the codec produces selects a word (R111). -/
theorem selects_encodeAddress (bus : BusNo) (dev : DevNo) (fn : FnNo) (offset : Byte) :
    selects (encodeAddress bus dev fn offset) = true := by
  obtain ⟨henable, hzero⟩ := encodeAddress_top bus dev fn offset
  simp [selects, henable, hzero, encodeAddress_low]

/-- The fields of a word index, bits 23:2 (R34). -/
theorem wordIndex_eq (a : Word) : wordIndex a =
    (a.extractLsb' 16 8).toNat * 16384 + (a.extractLsb' 11 5).toNat * 512 + (a.extractLsb' 8 3).toNat * 64 +
      (a.extractLsb' 2 6).toNat := by
  have fields : a.extractLsb' 2 22 =
      a.extractLsb' 16 8 ++ a.extractLsb' 11 5 ++ a.extractLsb' 8 3 ++ a.extractLsb' 2 6 := by
    rw [extractLsb'_append_extractLsb'_eq_extractLsb' (show 16 = 11 + 5 from rfl),
      extractLsb'_append_extractLsb'_eq_extractLsb' (show 11 = 8 + 3 from rfl),
      extractLsb'_append_extractLsb'_eq_extractLsb' (show 8 = 2 + 6 from rfl)]
  rw [wordIndex, fields, toNat_append_eq_add, toNat_append_eq_add, toNat_append_eq_add]
  omega

/-- A byte's top 6 bits are a quarter of it. -/
theorem toNat_extractLsb'_two_six (o : Byte) : (o.extractLsb' 2 6).toNat = o.toNat / 4 := by
  rw [BitVec.extractLsb'_toNat, Nat.shiftRight_eq_div_pow]
  have := o.isLt
  omega

/-- A selecting word is made of its fields (R67). -/
theorem encodeAddress_of_selects {a : Word} (h : selects a = true) :
    encodeAddress (a.extractLsb' 16 8) (a.extractLsb' 11 5) (a.extractLsb' 8 3) (a.extractLsb' 0 8) = a := by
  simp only [selects, Bool.and_eq_true, beq_iff_eq] at h
  obtain ⟨⟨hbit, hzero⟩, hlow⟩ : (_ ∧ a.extractLsb' 24 7 = 0#7) ∧ a.extractLsb' 0 2 = 0#2 := h
  have henable : a.extractLsb' 31 1 = 1#1 := by
    apply BitVec.eq_of_getLsbD_eq
    intro i hi
    obtain rfl : i = 0 := Nat.lt_one_iff.mp hi
    simpa using hbit
  rw [encodeAddress, BitVec.extractLsb'_extractLsb'_of_le (by decide), ← henable, ← hzero, ← hlow,
    extractLsb'_append_extractLsb'_eq_extractLsb' (show 31 = 24 + 7 from rfl),
    extractLsb'_append_extractLsb'_eq_extractLsb' (show 24 = 16 + 8 from rfl),
    extractLsb'_append_extractLsb'_eq_extractLsb' (show 16 = 11 + 5 from rfl),
    extractLsb'_append_extractLsb'_eq_extractLsb' (show 11 = 8 + 3 from rfl),
    extractLsb'_append_extractLsb'_eq_extractLsb' (show 8 = 2 + 6 from rfl),
    extractLsb'_append_extractLsb'_eq_extractLsb' (show 2 = 0 + 2 from rfl), extractLsb'_eq_self]

/-- Settles O16: field by field. -/
theorem addressWordsAreTheSelectingWords : Obligations.AddressWordsAreTheSelectingWords := by
  refine ⟨fun bus dev fn offset => ⟨selects_encodeAddress bus dev fn offset, encodeAddress_bus bus dev fn offset,
    encodeAddress_dev bus dev fn offset, encodeAddress_fn bus dev fn offset, encodeAddress_word bus dev fn offset, ?_⟩,
    fun a h => encodeAddress_of_selects h⟩
  rw [wordIndex_eq, encodeAddress_bus, encodeAddress_dev, encodeAddress_fn, encodeAddress_word,
    toNat_extractLsb'_two_six]

end Sys2Proof.Machine
end

/-! ## The port pair (spec/41_config_port.md, spec/70_reset_and_hazards.md R223 to R227) -/

section

namespace Sys2Proof.Machine

/-! ### The accesses one by one -/

/-- WRDATA is the write of the data port (R122). -/
theorem exec_wrdata_of_nil (v : Word) {s : State} (h : s.external = []) :
    exec (.wrdata v) s =
      .next (({ s with cfg := s.cfgAfterWrite s.cfgAddr, trace := s.trace ++ [.wd v] } : State).deliver (.value 0)) := by
  rw [← s.ioWriteData_of_nil v h]
  rfl

/-- Where no external agent acts, CFGWR is one round trip (R124). -/
theorem exec_cfgwr_of_nil (bus : BusNo) (dev : DevNo) (fn : FnNo) (o : Byte) (v : Word) {s : State}
    (h : s.external = []) :
    exec (.cfgwr bus dev fn o v) s = .next ((s.afterWrite (encodeAddress bus dev fn o) v).deliver (.value 0)) := by
  rw [← s.writeConfig_of_nil bus dev fn o v h]
  rfl

/-- A write makes the selected word unknown and leaves the others (log 6). -/
theorem State.read_cfgAfterWrite_other (s : State) (a : Word) (k : Nat)
    (h : ¬ (selects a = true ∧ k = wordIndex a)) : Memory.read (s.cfgAfterWrite a) k = Memory.read s.cfg k := by
  unfold State.cfgAfterWrite
  split
  next hs => exact Memory.read_forget_other _ _ _ fun hk => h ⟨hs, hk⟩
  next => rfl

theorem State.read_cfgAfterWrite_same (s : State) {a : Word} (h : selects a = true) :
    Memory.read (s.cfgAfterWrite a) (wordIndex a) = none := by
  rw [State.cfgAfterWrite, if_pos h, Memory.read_forget_same]

/-- Settles O20. -/
theorem wrdataPresentsToWhatTheLatchSelects : Obligations.WrdataPresentsToWhatTheLatchSelects :=
  fun s v h => ⟨_, exec_wrdata_of_nil v h, rfl, fun hs => s.read_cfgAfterWrite_same hs,
    fun k hk => s.read_cfgAfterWrite_other s.cfgAddr k hk⟩

/-- Settles O21: such a latch selects no listed word, so the read is a draw, and no word is written. -/
theorem unselectingLatchReadsADrawAndWritesNothing : Obligations.UnselectingLatchReadsADrawAndWritesNothing := by
  intro s v h hs
  have hno : s.fixedWord s.cfgAddr = none := by rw [State.fixedWord, hs]; rfl
  have hsame : s.cfgAfterWrite s.cfgAddr = s.cfg := by rw [State.cfgAfterWrite, hs]; rfl
  obtain ⟨hanswer, hdraws⟩ := s.answerAt_of_free s.draws s.cfgAddr hno
  constructor
  · rw [exec_rddata, s.ioReadData_of_nil h, hanswer, hdraws]
  · rw [exec_wrdata_of_nil v h, hsame]

/-- Settles O23: the encoded address selects the word it names. -/
theorem cfgwrWritesOneWord : Obligations.CfgwrWritesOneWord := by
  intro s bus dev fn offset v h
  refine ⟨_, exec_cfgwr_of_nil bus dev fn offset v h, rfl,
    s.read_cfgAfterWrite_same (selects_encodeAddress bus dev fn offset), fun k hk => ?_⟩
  exact s.read_cfgAfterWrite_other _ k fun hsel => hk hsel.2

/-- RDVENDOR is a configuration read and the return of its vendor id (R125); the other field readers likewise. -/
theorem exec_rdvendor (bus : BusNo) (dev : DevNo) (fn : FnNo) (s : State) :
    exec (.rdvendor bus dev fn) s = .next ((s.readConfig bus dev fn Config.offVendorDevice).2.deliver
      (.value ((vendorId (s.readConfig bus dev fn Config.offVendorDevice).1).setWidth 64))) := rfl

theorem exec_rddevid (bus : BusNo) (dev : DevNo) (fn : FnNo) (s : State) :
    exec (.rddevid bus dev fn) s = .next ((s.readConfig bus dev fn Config.offVendorDevice).2.deliver
      (.value ((deviceId (s.readConfig bus dev fn Config.offVendorDevice).1).setWidth 64))) := rfl

theorem exec_rdhdr (bus : BusNo) (dev : DevNo) (fn : FnNo) (s : State) :
    exec (.rdhdr bus dev fn) s = .next ((s.readConfig bus dev fn Config.offHeader).2.deliver
      (.value ((headerType (s.readConfig bus dev fn Config.offHeader).1).setWidth 64))) := rfl

theorem exec_rdclass (bus : BusNo) (dev : DevNo) (fn : FnNo) (s : State) :
    exec (.rdclass bus dev fn) s = .next ((s.readConfig bus dev fn Config.offClass).2.deliver
      (.classCode (classCodeOf (s.readConfig bus dev fn Config.offClass).1))) := rfl

theorem exec_rdbusnum (bus : BusNo) (dev : DevNo) (fn : FnNo) (s : State) :
    exec (.rdbusnum bus dev fn) s = .next ((s.readConfig bus dev fn Config.offBusNumbers).2.deliver
      (.value ((s.readConfig bus dev fn Config.offBusNumbers).1.setWidth 64))) := rfl

/-- Settles O24: each reader is one round trip at its offset. -/
theorem fieldReadersReturnTheirBits : Obligations.FieldReadersReturnTheirBits := by
  intro s bus dev fn h
  refine ⟨?_, ?_, ?_, ?_, ?_⟩
  · rw [exec_rdvendor, s.readConfig_of_nil bus dev fn _ h]; rfl
  · rw [exec_rddevid, s.readConfig_of_nil bus dev fn _ h]; rfl
  · rw [exec_rdhdr, s.readConfig_of_nil bus dev fn _ h]; rfl
  · rw [exec_rdclass, s.readConfig_of_nil bus dev fn _ h]; rfl
  · rw [exec_rdbusnum, s.readConfig_of_nil bus dev fn _ h]

/-- Where an external agent writes the latch between the two events, the read's second event acts on what it
wrote (R59). -/
theorem State.readConfig_misdirected {s : State} {x : Word} {later : List (List ExternalMove)}
    (h : s.external = [] :: [.writeAddr x] :: later) (bus : BusNo) (dev : DevNo) (fn : FnNo) (o : Byte) :
    s.readConfig bus dev fn o = (s.answerAt s.draws x, { s with
      cfgAddr := x
      external := later
      trace := s.trace ++ [.wa (encodeAddress bus dev fn o), .rd (s.answerAt s.draws x)]
      draws := s.draws + s.answerDraws x }) := by
  simp [State.readConfig, State.ioWriteAddr, State.ioReadData, State.externalTurn, h, State.externalMove,
    State.answerAt, State.answerDraws, State.fixedWord]

theorem State.writeConfig_misdirected {s : State} {x : Word} {later : List (List ExternalMove)}
    (h : s.external = [] :: [.writeAddr x] :: later) (bus : BusNo) (dev : DevNo) (fn : FnNo) (o : Byte) (v : Word) :
    s.writeConfig bus dev fn o v = { s with
      cfgAddr := x
      external := later
      cfg := s.cfgAfterWrite x
      trace := s.trace ++ [.wa (encodeAddress bus dev fn o), .wd v] } := by
  simp [State.writeConfig, State.ioWriteAddr, State.ioWriteData, State.externalTurn, h, State.externalMove,
    State.cfgAfterWrite]

/-- Settles O25. -/
theorem interleavedAddressWriteMisdirectsTheAccess : Obligations.InterleavedAddressWriteMisdirectsTheAccess := by
  intro s bus dev fn offset v x later h
  constructor
  · rw [exec_cfgrd, ← State.readConfig, s.readConfig_misdirected h]
  · rw [← s.writeConfig_misdirected h]
    rfl

/-! ### Runs of several steps -/

/-- `k` steps lead from `s` to `t`. -/
def Runs (k : Nat) (s t : State) : Prop := Host.Core.run Sys2Proof.core k s = .next t

theorem Runs.refl (s : State) : Runs 0 s s := rfl

/-- A run that answers a next state takes its first step to one (Host/Core). -/
theorem core_run_succ_iff (M : Host.Core) (k : Nat) (s u : M.State) :
    M.run (k + 1) s = .next u ↔ ∃ t, M.step s = .next t ∧ M.run k t = .next u := by
  rw [Host.Core.run]
  cases M.step s <;> simp

theorem Runs.cons {k : Nat} {s t u : State} (h : step s = .next t) (hrest : Runs k t u) : Runs (k + 1) s u :=
  (core_run_succ_iff Sys2Proof.core k s u).mpr ⟨t, h, hrest⟩

theorem Runs.single {s t : State} (h : step s = .next t) : Runs 1 s t := .cons h (.refl t)

theorem Runs.uncons {k : Nat} {s u : State} (h : Runs (k + 1) s u) : ∃ t, step s = .next t ∧ Runs k t u :=
  (core_run_succ_iff Sys2Proof.core k s u).mp h

theorem Runs.trans {k l : Nat} {s t u : State} (h : Runs k s t) (h' : Runs l t u) : Runs (k + l) s u := by
  induction k generalizing s with
  | zero =>
    obtain rfl := Host.Outcome.next.inj h
    rwa [Nat.zero_add]
  | succ k ih =>
    obtain ⟨v, hstep, hrest⟩ := h.uncons
    rw [Nat.succ_add]
    exact .cons hstep (ih hrest)

/-- WRADDR as the host's command, where no external agent acts. -/
theorem step_wraddr {s : State} {w : Word64} {rest : List Word64} {a : Word} (hr : s.run = .idle)
    (hc : s.commands = w :: rest) (he : s.external = []) (hd : decode w = .command (.wraddr a)) :
    step s = .next { s with
      cursor := []
      commands := rest
      cfgAddr := a
      trace := s.trace ++ [.wa a]
      responses := s.responses ++ [⟨.success, 0⟩] } := by
  rw [step_command s w rest _ hr hc hd, exec_wraddr, (s.takeCommand rest).ioWriteAddr_of_nil a he, State.deliver_host _ _ rfl, hr]
  rfl

/-- CFGRD as the host's command, of a word the platform holds fixed. -/
theorem step_cfgrd_of_fixed {s : State} {w : Word64} {rest : List Word64} {bus : BusNo} {dev : DevNo} {fn : FnNo}
    {o : Byte} {x : Word} (hr : s.run = .idle) (hc : s.commands = w :: rest) (he : s.external = [])
    (hd : decode w = .command (.cfgrd bus dev fn o)) (hx : s.fixedWord (encodeAddress bus dev fn o) = some x) :
    step s = .next { s with
      cursor := []
      commands := rest
      cfgAddr := encodeAddress bus dev fn o
      trace := s.trace ++ [.wa (encodeAddress bus dev fn o), .rd x]
      responses := s.responses ++ [⟨.success, x.setWidth 64⟩] } := by
  obtain ⟨hanswer, hdraws⟩ := State.answerAt_of_fixed (s.takeCommand rest) s.draws _ x hx
  rw [step_command s w rest _ hr hc hd, exec_cfgrd_of_nil _ _ _ _ (s.takeCommand rest) he, State.takeCommand_draws, hanswer,
    State.deliver_host _ _ rfl, State.afterRead, State.takeCommand_draws, hanswer, hdraws, hr]
  rfl

/-- RDDATA as the host's command, of a word the platform holds fixed. -/
theorem step_rddata_of_fixed {s : State} {w : Word64} {rest : List Word64} {x : Word} (hr : s.run = .idle)
    (hc : s.commands = w :: rest) (he : s.external = []) (hd : decode w = .command .rddata)
    (hx : s.fixedWord s.cfgAddr = some x) :
    step s = .next { s with
      cursor := []
      commands := rest
      trace := s.trace ++ [.rd x]
      responses := s.responses ++ [⟨.success, x.setWidth 64⟩] } := by
  obtain ⟨hanswer, hdraws⟩ := State.answerAt_of_fixed (s.takeCommand rest) s.draws _ x hx
  rw [step_command s w rest _ hr hc hd, exec_rddata, (s.takeCommand rest).ioReadData_of_nil he, State.takeCommand_draws,
    State.takeCommand_cfgAddr, hanswer, hdraws, State.deliver_host _ _ rfl, hr]
  rfl

/-- Settles O26: WRADDR and the reads leave the listed words, so both reads find the same one. -/
theorem rawReadAfterCfgrdReadsCfgrdsWord : Obligations.RawReadAfterCfgrdReadsCfgrdsWord := by
  intro s w₁ w₂ w₃ rest a w bus dev fn offset hr he hc hd₁ hd₂ hd₃ hw
  have h := Runs.cons (step_wraddr hr hc he hd₁)
    (.cons (step_cfgrd_of_fixed hr rfl he hd₂ hw) (.single (step_rddata_of_fixed hr rfl he hd₃ hw)))
  simpa [Runs] using h

/-! ### What every step keeps of the trace and the latch -/

theorem lastAddr_append_wa (t : List Event) (v : Word) : lastAddr (t ++ [.wa v]) = some v := by
  simp [lastAddr]

theorem lastAddr_append_rd (t : List Event) (v : Word) : lastAddr (t ++ [.rd v]) = lastAddr t := by
  simp [lastAddr]

theorem lastAddr_append_wd (t : List Event) (v : Word) : lastAddr (t ++ [.wd v]) = lastAddr t := by
  simp [lastAddr]

/-- Each port transaction keeps R35. -/
theorem State.latchIsLast_afterPort (s : State) (i : Instr) (h : s.latchIsLast) : (s.afterPort i).latchIsLast := by
  refine State.afterPort_induct (P := State.latchIsLast) (fun t v ht => ?wa) (fun t ht => ?rd) (fun t v ht => ?wd) s i h
  case wa =>
    rw [t.ioWriteAddr_of_nil v ht.1]
    exact ⟨ht.1, fun a ha => Option.some.inj ((lastAddr_append_wa _ _).symm.trans ha)⟩
  case rd =>
    rw [t.ioReadData_of_nil ht.1]
    exact ⟨ht.1, fun a ha => ht.2 a ((lastAddr_append_rd _ _).symm.trans ha)⟩
  case wd =>
    rw [t.ioWriteData_of_nil v ht.1]
    exact ⟨ht.1, fun a ha => ht.2 a ((lastAddr_append_wd _ _).symm.trans ha)⟩

theorem State.SamePorts.latchIsLast {s t : State} (h : t.SamePorts s) (hs : s.latchIsLast) : t.latchIsLast := by
  rw [State.latchIsLast, h.external, h.trace, h.cfgAddr]
  exact hs

/-- Settles O27. -/
theorem latchHoldsTheLastAddressWritten : Obligations.LatchHoldsTheLastAddressWritten := by
  intro s t h hs
  rcases step_samePorts hs with hsame | ⟨i, u, -, hu, ht⟩
  · exact hsame.latchIsLast h
  · exact ht.latchIsLast (u.latchIsLast_afterPort i (hu.latchIsLast h))

/-- A round trip keeps the discipline (R224). -/
theorem portDiscipline_append_trip (t : List Event) (a : Word) (e : Event) (he : e.isData = true)
    (h : portDiscipline t = true) : portDiscipline (t ++ [.wa a, e]) = true := by
  induction t using portDiscipline.induct with
  | case1 => simp [portDiscipline, Event.isAddr, he]
  | case2 => nomatch h
  | case3 e₁ e₂ rest ih =>
    simp only [portDiscipline, Bool.and_eq_true] at h
    simp [portDiscipline, h.1.1, h.1.2, ih h.2]

theorem State.portDiscipline_readConfig (s : State) (bus : BusNo) (dev : DevNo) (fn : FnNo) (o : Byte)
    (h : portDiscipline s.trace = true) : portDiscipline (s.readConfig bus dev fn o).2.trace = true := by
  rw [s.readConfig_trace]
  exact portDiscipline_append_trip _ _ _ rfl h

/-- The rules issue none of the operations that write, and no raw primitive. -/
theorem opcode_of_issuedBy {i : Instr} {a a' : Activation} (h : IssuedBy i a a') :
    i.opcode ≠ 0x02 ∧ i.opcode ≠ 0x03 ∧ i.opcode ≠ 0x04 ∧ i.opcode ≠ 0x06 := by
  cases i
  case wraddr | rddata | wrdata | cfgwr => exact h.elim
  all_goals simp [Instr.opcode]

/-- The activity of an operation that is no raw primitive is made of round trips (R224). -/
theorem State.portDiscipline_afterPort (s : State) {i : Instr} (hwa : i.opcode ≠ 0x02) (hrd : i.opcode ≠ 0x03)
    (hwd : i.opcode ≠ 0x04) (h : portDiscipline s.trace = true) :
    portDiscipline (s.afterPort i).trace = true := by
  rcases s.afterPort_cases i with hi | ⟨v, rfl⟩ | rfl | ⟨v, rfl⟩ | ⟨bus, dev, fn, o, v, rfl⟩ |
    ⟨bus, dev, fn, o, hi⟩ | ⟨bus, dev, fn, o, o', hi⟩
  · rwa [hi]
  · exact absurd rfl hwa
  · exact absurd rfl hrd
  · exact absurd rfl hwd
  · exact (s.writeConfig_trace bus dev fn o v).symm ▸ portDiscipline_append_trip _ _ _ rfl h
  · rw [hi]
    exact s.portDiscipline_readConfig bus dev fn o h
  · rw [hi]
    exact State.portDiscipline_readConfig _ _ _ _ _ (s.portDiscipline_readConfig bus dev fn o h)

/-- Settles O28: a rule issues no raw primitive, and each of the three has its opcode. -/
theorem everyStepButRawCommandsKeepsPortDiscipline : Obligations.EveryStepButRawCommandsKeepsPortDiscipline := by
  intro s t h hraw hs
  rcases step_samePorts hs with hsame | ⟨i, u, hrun, hu, ht⟩
  · rwa [hsame.trace]
  · rw [ht.trace]
    rw [← hu.trace] at h
    rcases hrun with ⟨-, a, a', rest, -, ha⟩ | ⟨hidle, w, rest, hc, hd⟩
    · obtain ⟨h2, h3, h4, -⟩ := opcode_of_issuedBy (issues_of_nextAction ha).issued
      exact u.portDiscipline_afterPort h2 h3 h4 h
    · obtain ⟨h2, h3, h4⟩ := hraw hidle w rest hc
      rw [← (wellFormed_and_opcode_of_decode hd).2] at h2 h3 h4
      exact u.portDiscipline_afterPort h2 h3 h4 h

/-- Settles O29: port activity is at most two round trips. -/
theorem traceOnlyGrows : Obligations.TraceOnlyGrows := by
  intro s t hs
  rcases step_samePorts hs with hsame | ⟨i, u, -, hu, ht⟩
  · exact ⟨[], by rw [hsame.trace, List.append_nil], by decide⟩
  · rw [ht.trace, ← hu.trace]
    rcases u.afterPort_cases i with hi | ⟨v, rfl⟩ | rfl | ⟨v, rfl⟩ | ⟨bus, dev, fn, o, v, rfl⟩ |
      ⟨bus, dev, fn, o, hi⟩ | ⟨bus, dev, fn, o, o', hi⟩
    · exact ⟨[], by rw [hi, List.append_nil], by decide⟩
    · exact ⟨_, u.ioWriteAddr_trace v, by simp⟩
    · exact ⟨_, u.ioReadData_trace, by simp⟩
    · exact ⟨_, u.ioWriteData_trace v, by simp⟩
    · exact ⟨_, u.writeConfig_trace bus dev fn o v, by simp⟩
    · rw [hi]
      exact ⟨_, u.readConfig_trace bus dev fn o, by simp⟩
    · rw [hi, State.readConfig_trace, State.readConfig_trace, List.append_assoc]
      exact ⟨_, rfl, by simp⟩

/-- What a run of reads adds to the trace and keeps of the listed words. -/
def State.OnlyRead (s t : State) : Prop :=
  (∃ e, t.trace = s.trace ++ e ∧ ∀ v, Event.wd v ∉ e) ∧ (s.external = [] → t.external = [] ∧ t.cfg = s.cfg)

theorem State.onlyRead_refl (s : State) : s.OnlyRead s :=
  ⟨⟨[], by simp, by simp⟩, fun h => ⟨h, rfl⟩⟩

theorem State.OnlyRead.readConfig {s t : State} (h : s.OnlyRead t) (bus : BusNo) (dev : DevNo) (fn : FnNo) (o : Byte) :
    s.OnlyRead (t.readConfig bus dev fn o).2 := by
  obtain ⟨⟨e, htrace, hwd⟩, hcfg⟩ := h
  refine ⟨⟨e ++ [.wa _, .rd _], by rw [t.readConfig_trace, htrace, List.append_assoc], ?_⟩, fun hs => ?_⟩
  · simp [hwd]
  · obtain ⟨hext, hsame⟩ := hcfg hs
    rw [t.readConfig_of_nil bus dev fn o hext]
    exact ⟨hext, hsame⟩

/-- Every operation but the raw primitives and CFGWR only reads. -/
theorem State.onlyRead_afterPort (s : State) {i : Instr} (hwa : i.opcode ≠ 0x02) (hrd : i.opcode ≠ 0x03)
    (hwd : i.opcode ≠ 0x04) (hcw : i.opcode ≠ 0x06) : s.OnlyRead (s.afterPort i) := by
  rcases s.afterPort_cases i with hi | ⟨v, rfl⟩ | rfl | ⟨v, rfl⟩ | ⟨bus, dev, fn, o, v, rfl⟩ |
    ⟨bus, dev, fn, o, hi⟩ | ⟨bus, dev, fn, o, o', hi⟩
  · rw [hi]
    exact s.onlyRead_refl
  · exact absurd rfl hwa
  · exact absurd rfl hrd
  · exact absurd rfl hwd
  · exact absurd rfl hcw
  · rw [hi]
    exact s.onlyRead_refl.readConfig bus dev fn o
  · rw [hi]
    exact (s.onlyRead_refl.readConfig bus dev fn o).readConfig bus dev fn o'

/-- Settles O30: the operations that a rule issues, and RDBAR, which alone has opcode 0x0C, only read. -/
theorem scannerAndBarResolverOnlyRead : Obligations.ScannerAndBarResolverOnlyRead := by
  intro s t hs hwho
  rcases step_samePorts hs with hsame | ⟨i, u, hrun, hu, ht⟩
  · exact ⟨⟨[], by rw [hsame.trace, List.append_nil], by simp⟩, fun _ => hsame.cfg⟩
  · have reads : u.OnlyRead (u.afterPort i) := by
      rcases hrun with ⟨-, a, a', rest, -, ha⟩ | ⟨hidle, w, rest, hc, hd⟩
      · obtain ⟨h2, h3, h4, h6⟩ := opcode_of_issuedBy (issues_of_nextAction ha).issued
        exact u.onlyRead_afterPort h2 h3 h4 h6
      · obtain ⟨w', rest', hc', hop⟩ : ∃ w rest, s.commands = w :: rest ∧ opField w = 0x0C := by
          rcases hwho with hbusy | ⟨-, h⟩
          · nomatch hidle.symm.trans hbusy
          · exact h
        obtain ⟨rfl, -⟩ := List.cons.inj (hc.symm.trans hc')
        have hopcode : i.opcode = 0x0C := (wellFormed_and_opcode_of_decode hd).2.trans hop
        apply u.onlyRead_afterPort <;> rw [hopcode] <;> decide
    obtain ⟨⟨e, htrace, hwd⟩, hcfg⟩ := reads
    rw [ht.trace, ht.cfg, ← hu.trace, ← hu.cfg, ← hu.external]
    exact ⟨⟨e, htrace, hwd⟩, fun h => (hcfg h).2⟩

end Sys2Proof.Machine
end

/-! ## Steps of a scan (spec/43_scanner.md R161 to R165, spec/60_exceptions.md R191, R198, R199) -/

section

namespace Sys2Proof.Machine

/-- A field zero-extended to 64 bits and cut again is itself (R82). -/
theorem setWidth_setWidth_self {n : Nat} (x : BitVec n) (h : n ≤ 64) : (x.setWidth 64).setWidth n = x := by
  rw [BitVec.setWidth_setWidth_of_le x h, BitVec.setWidth_eq]

/-- The sentinel test of RDVENDOR's answer is that of the 16-bit vendor id (R125). -/
theorem ite_isAbsent {α : Type} (v : BitVec 16) (x y : α) :
    (if isAbsent (v.setWidth 64) = true then x else y) = if v = Config.absentVendor then x else y :=
  if_congr (isAbsent_setWidth_iff v) rfl rfl

/-- SCANBUS's rule where the vendor id of a device has been read (R161). -/
theorem nextAction_scanBus_vendor (bus : BusNo) (d : Nat) (v : BitVec 16) :
    nextAction (.scanBus .vendor bus d) (some (.value (v.setWidth 64))) =
      if v = Config.absentVendor then nextDevice bus (d + 1)
      else .issue (.scandev bus (BitVec.ofNat 5 d)) (.scanBus .device bus d) :=
  ite_isAbsent v _ _

/-- Settles O50: 31 is the index at which the loop ends. -/
theorem absentDevicesAreSkipped : Obligations.AbsentDevicesAreSkipped := by
  intro bus d w hd
  have next : nextDevice bus (d + 1) = if d = 31 then .finish (.value 0)
      else .issue (.rdvendor bus (BitVec.ofNat 5 (d + 1)) 0) (.scanBus .vendor bus (d + 1)) := by
    unfold nextDevice
    by_cases hlast : d = 31
    · rw [if_pos hlast, if_neg (by rw [hlast]; decide)]
    · rw [if_neg hlast, if_pos (show d + 1 < 32 by omega)]
  rw [nextAction_scanBus_vendor, next, ite_not]
  rfl

/-- A predicate that a rule issued takes one step and answers its test. -/
theorem step_issue_issingle {s : State} {a a' : Activation} {rest : List Activation} {h : Byte} (hr : s.run = .busy)
    (hc : s.cursor = a :: rest) (ha : nextAction a s.ret = .issue (.issingle h) a') :
    step s = .next { s with cursor := a' :: rest, ret := some (.truth (isSingle h)) } := by
  rw [step_issue s a a' rest _ hr hc ha, exec_issingle, State.internally_deliver_rule _ _ (List.cons_ne_nil _ _)]

theorem step_issue_ccmatch2 {s : State} {a a' : Activation} {rest : List Activation} {c : ClassCode} {b u : Byte}
    (hr : s.run = .busy) (hc : s.cursor = a :: rest) (ha : nextAction a s.ret = .issue (.ccmatch2 c b u) a') :
    step s = .next { s with cursor := a' :: rest, ret := some (.truth (matchBaseSub c b u)) } := by
  rw [step_issue s a a' rest _ hr hc ha, exec_ccmatch2, State.internally_deliver_rule _ _ (List.cons_ne_nil _ _)]

/-- RDBUSNUM that a rule issued is one round trip, where no external agent acts. -/
theorem step_issue_rdbusnum_of_nil {s : State} {a a' : Activation} {rest : List Activation} {bus : BusNo}
    {dev : DevNo} {fn : FnNo} (hr : s.run = .busy) (hc : s.cursor = a :: rest) (hext : s.external = [])
    (ha : nextAction a s.ret = .issue (.rdbusnum bus dev fn) a') :
    step s = .next { s.afterRead (encodeAddress bus dev fn 0x18) with
      cursor := a' :: rest
      ret := some (.value ((s.answerAt s.draws (encodeAddress bus dev fn 0x18)).setWidth 64)) } := by
  rw [step_issue s a a' rest _ hr hc ha, exec_rdbusnum,
    State.readConfig_of_nil { s with cursor := a' :: rest, ret := none } bus dev fn _ hext,
    State.deliver_rule _ _ (List.cons_ne_nil _ _)]
  rfl

/-- SCANBUS that a rule issued takes one step to its start. -/
theorem step_issue_scanbus {s : State} {a a' : Activation} {rest : List Activation} {bus : BusNo}
    (hr : s.run = .busy) (hc : s.cursor = a :: rest) (ha : nextAction a s.ret = .issue (.scanbus bus) a') :
    step s = .next { s with cursor := .scanBus .start bus 0 :: a' :: rest, ret := none } := by
  rw [step_issue s a a' rest _ hr hc ha]
  exact congrArg _ (State.internally_rule _ _ (List.cons_ne_nil _ _))

/-- An activation that ends in a caller. -/
theorem step_finish_caller {s : State} {a b : Activation} {rest : List Activation} {r : Returned}
    (hr : s.run = .busy) (hc : s.cursor = a :: b :: rest) (ha : nextAction a s.ret = .finish r) :
    step s = .next { s with cursor := b :: rest, ret := some r } := by
  rw [step_finish s a (b :: rest) r hr hc ha, s.finish_caller r b rest (by rw [hc]; rfl)]

/-- The last activation's end is the response. -/
theorem step_finish_last {s : State} {a : Activation} {r : Returned}
    (hr : s.run = .busy) (hc : s.cursor = [a]) (ha : nextAction a s.ret = .finish r) :
    step s = .next (State.respond { s with cursor := [], ret := none } r) := by
  rw [step_finish s a [] r hr hc ha, s.finish_last r (by rw [hc]; rfl)]

/-- Settles O51: ISSINGLE answers true, and SCANDEV ends. -/
theorem singleFunctionDeviceIsNotProbedFurther : Obligations.SingleFunctionDeviceIsNotProbedFurther := by
  intro s bus dev f caller rest h hr hc hret hbit
  have hsingle : isSingle ((h.setWidth 64).setWidth 8) = true := by
    rw [setWidth_setWidth_self h (by decide), isSingle, hbit]
    rfl
  have test := step_issue_issingle (a' := .scanDev .single bus dev f) (h := (h.setWidth 64).setWidth 8) hr hc
    (by rw [hret]; rfl)
  rw [hsingle] at test
  exact Runs.cons test (.single (step_finish_caller (a := .scanDev .single bus dev f) hr rfl rfl))

/-- Settles O52: CCMATCH2 answers the bridge test; a bridge has its bus-numbers word read and SCANBUS called. -/
theorem bridgeIsDescendedIntoAfterItsEntry : Obligations.BridgeIsDescendedIntoAfterItsEntry := by
  intro s bus dev fn h c caller rest v hr hext hc hret
  have test := step_issue_ccmatch2 (a' := .scanFn .bridge bus dev fn h c) (c := c) (b := Config.bridgeBase)
    (u := Config.bridgeSub) hr hc (by rw [hret]; rfl)
  rw [matchBaseSub_eq_decide] at test
  split
  next hbridge =>
    rw [decide_eq_true hbridge] at test
    have read := step_issue_rdbusnum_of_nil (s := { s with
        cursor := .scanFn .bridge bus dev fn h c :: caller :: rest, ret := some (.truth true) })
      (a' := .scanFn .busNumbers bus dev fn h c) hr rfl hext rfl
    refine Runs.cons test (.cons read (.single (step_issue_scanbus (a := .scanFn .busNumbers bus dev fn h c)
      hr rfl ?_)))
    show Action.issue (.scanbus (secondaryBus _)) _ = _
    rw [setWidth_setWidth_self _ (by decide)]
    rfl
  next hother =>
    rw [decide_eq_false hother] at test
    exact Runs.cons test (.single (step_finish_caller (a := .scanFn .bridge bus dev fn h c) hr rfl rfl))

/-- Settles O54: each enclosing activation waits for a result, so it ends with the same kind. -/
theorem failurePropagatesUnchanged : Obligations.FailurePropagatesUnchanged := by
  intro s f h hr hret
  cases hc : s.cursor with
  | nil =>
    obtain ⟨-, -, -, -, hfits, -⟩ := (State.inv_busy_iff hr).mp h
    simp [hc, headFits] at hfits
  | cons a rest =>
    obtain ⟨-, rfl, -⟩ := h.full_of_failed hr hc hret
    refine ⟨rfl, ?_⟩
    induction rest generalizing s a with
    | nil =>
      have hw := (h.full_of_failed hr hc hret).1
      have hstep := step_finish_last hr hc (hret ▸ nextAction_of_failed hw .full)
      exact Runs.single hstep
    | cons b rest ih =>
      have hw := (h.full_of_failed hr hc hret).1
      have hstep := step_finish_caller hr hc (hret ▸ nextAction_of_failed hw .full)
      have hinv := everyStepKeepsTheInvariant s _ h hstep
      exact Runs.cons hstep (ih _ hinv hr rfl (a := b) rfl)

/-- Only the failing kind `Full` is reported as `Full`. -/
theorem response_kind_full {r : Returned} {n : Nat} (h : (r.response n).kind = .full) : r = .failed .full := by
  rcases r with v | c | b | (_ | _ | _)
  case failed.full => rfl
  all_goals nomatch h

/-- No operation that a rule issued is answered to the host. -/
theorem responses_of_issued {i : Instr} {a a' : Activation} {rest : List Activation} {s t : State}
    (hi : IssuedBy i a a') (hc : s.cursor = a' :: rest) (he : exec i s = .next t) : t.responses = s.responses := by
  rcases exec_issued hi hc with ⟨r, he', -⟩ | ⟨f, -, -, he'⟩ | ⟨d, -, he'⟩ | ⟨b, -, -, he'⟩ <;>
    obtain rfl := Host.Outcome.next.inj (he'.symm.trans he)
  · exact s.afterPort_responses i
  · rfl
  · exact s.regAdd_responses d
  · rfl

/-- Settles O55: a command's response is never `Full`, and an activation's end is one only where the registry is
full. -/
theorem fullIsAnsweredOnlyWithAFullRegistry : Obligations.FullIsAnsweredOnlyWithAFullRegistry := by
  intro s t r h hs hresp hkind
  have quiet (hsame : t.responses = s.responses) : False := by
    rw [hsame] at hresp
    exact absurd (congrArg List.length hresp) (by simp)
  have command (w : Word64) (rest : List Word64) (hr : s.run = .idle) (hc : s.commands = w :: rest) : False := by
    by_cases hop : opField w = 0x0D
    · obtain rfl := Host.Outcome.next.inj ((step_of_scanall hr hc hop).symm.trans hs)
      exact quiet rfl
    · obtain ⟨i, r', rfl, hfull⟩ := step_of_command hr hc hop hs
      rw [State.respond_responses, State.afterPort_responses, State.takeCommand_responses] at hresp
      obtain rfl := List.singleton_inj.mp (List.append_cancel_left hresp)
      exact hfull (response_kind_full hkind)
  rcases step_next_cases s t hs with ⟨-, -, rfl⟩ | ⟨w, rest, i, hr, hc, -⟩ | ⟨w, rest, op, hr, hc, -⟩ |
    ⟨a, a', rest, i, hr, hc, ha, he⟩ | ⟨a, rest, r', hr, hc, ha, rfl⟩
  · exact (quiet rfl).elim
  · exact (command w rest hr hc).elim
  · exact (command w rest hr hc).elim
  · exact (quiet (responses_of_issued (s := { s with cursor := a' :: rest, ret := none })
      (issues_of_nextAction ha).issued rfl he)).elim
  · refine ⟨hr, ?_, State.entries_congr (s.finish_regCount r') (s.finish_regEntry r')⟩
    rw [s.finish_regCount]
    cases rest with
    | nil =>
      rw [s.finish_last r' (by rw [hc]; rfl), State.respond_responses] at hresp
      obtain rfl := List.singleton_inj.mp (List.append_cancel_left hresp)
      obtain rfl := response_kind_full hkind
      rcases h.finish_cases hr hc ha with hv | ⟨-, -, hcount⟩
      · nomatch hv
      · exact hcount
    | cons b rest =>
      rw [s.finish_caller r' b rest (by rw [hc]; rfl)] at quiet
      exact (quiet rfl).elim

end Sys2Proof.Machine
end

/-! ## The recursion of R160 to R163, put together from its parts

Every procedure of the recursion is made of an ask, an append, a sequence of two and the end; its loops are sequences.
What holds of all four parts holds of the whole scan. -/

section

namespace Sys2Proof.Machine

/-- A scanner procedure: the platform's answers and the log so far give the kind returned and the log after. -/
abbrev ScanProc := (Nat → Word) → ScanLog → ScanResult

namespace ScanProc

/-- Success, at once. -/
def done : ScanProc := fun _ g => (none, g)

/-- One round trip, whose answer decides what follows (R130). -/
def ask (a : Word) (q : Word → ScanProc) : ScanProc := fun answers g =>
  q (g.ask answers a).1 answers (g.ask answers a).2

/-- REGADD, whose failing kind ends the procedure (R141, R164). -/
def add (d : Device) (q : ScanProc) : ScanProc := fun answers g =>
  if g.devices.length = Config.regCapacity then (some .full, g)
  else q answers { g with devices := g.devices ++ [d] }

/-- A call, whose failing kind ends the procedure (R164). -/
def seq (p q : ScanProc) : ScanProc := fun answers g =>
  match p answers g with
  | (some f, g') => (some f, g')
  | (none, g') => q answers g'

/-- A loop over `count` indices from `i`. -/
def loop (body : Nat → ScanProc) : (count i : Nat) → ScanProc
  | 0, _ => done
  | count + 1, i => seq (body i) (loop body count (i + 1))

/-- SCANFN (R163). -/
def fn (down : BusNo → ScanProc) (bus : BusNo) (dev : DevNo) (f : FnNo) : ScanProc :=
  ask (encodeAddress bus dev f Config.offClass) fun c =>
  ask (encodeAddress bus dev f Config.offHeader) fun h =>
  add ⟨bus, dev, f, headerType h, classCodeOf c⟩ <|
  if matchBaseSub (classCodeOf c) Config.bridgeBase Config.bridgeSub then
    ask (encodeAddress bus dev f Config.offBusNumbers) fun w => down (secondaryBus w)
  else done

/-- Asks for the vendor id of a function and, where it is present, goes on (R160 to R162). -/
def ifPresent (bus : BusNo) (dev : DevNo) (f : FnNo) (p : ScanProc) : ScanProc :=
  ask (encodeAddress bus dev f Config.offVendorDevice) fun v =>
  if vendorId v = Config.absentVendor then done else p

/-- SCANDEV (R162). -/
def dev (down : BusNo → ScanProc) (bus : BusNo) (d : DevNo) : ScanProc :=
  seq (fn down bus d 0) <|
  ask (encodeAddress bus d 0 Config.offHeader) fun h =>
  if isSingle (headerType h) then done
  else loop (fun f => ifPresent bus d (BitVec.ofNat 3 f) (fn down bus d (BitVec.ofNat 3 f))) 7 1

/-- SCANBUS (R161), with room for `depth` activations of it. -/
def bus : (depth : Nat) → BusNo → ScanProc
  | 0, _ => done
  | depth + 1, b =>
    loop (fun d => ifPresent b (BitVec.ofNat 5 d) 0 (dev (bus depth) b (BitVec.ofNat 5 d))) 32 0

/-- SCANALL (R160), after REGRESET. -/
def all : ScanProc :=
  ask (encodeAddress 0 0 0 Config.offHeader) fun h =>
  if isSingle (headerType h) then bus Config.stackDepth 0
  else loop (fun f => ifPresent 0 0 (BitVec.ofNat 3 f) (bus Config.stackDepth (functionAsBus f))) 7 1

theorem seq_of_none {p q : ScanProc} {answers : Nat → Word} {g g' : ScanLog} (h : p answers g = (none, g')) :
    seq p q answers g = q answers g' := by
  rw [seq, h]

theorem seq_of_some {p q : ScanProc} {answers : Nat → Word} {g g' : ScanLog} {f : Failure}
    (h : p answers g = (some f, g')) : seq p q answers g = (some f, g') := by
  rw [seq, h]

theorem add_of_full {d : Device} {q : ScanProc} {answers : Nat → Word} {g : ScanLog} (h : g.devices.length = 32) :
    add d q answers g = (some .full, g) := if_pos h

theorem add_of_room {d : Device} {q : ScanProc} {answers : Nat → Word} {g : ScanLog} (h : g.devices.length ≠ 32) :
    add d q answers g = q answers { g with devices := g.devices ++ [d] } := if_neg h

/-! ### The parts give the recursion -/

section

variable (answers : Nat → Word)

theorem scanLoop_eq (body : Nat → ScanProc) (count i : Nat) (g : ScanLog) :
    scanLoop (fun i g => body i answers g) count i g = loop body count i answers g := by
  induction count generalizing i g with
  | zero => rfl
  | succ count ih =>
    rw [scanLoop, loop]
    rcases h : body i answers g with ⟨_ | f, g'⟩
    · rw [seq_of_none h]
      exact ih (i + 1) g'
    · rw [seq_of_some h]

theorem recFn_eq (down : BusNo → ScanProc) (b : BusNo) (d : DevNo) (f : FnNo) (g : ScanLog) :
    recFn answers (fun b g => down b answers g) b d f g = fn down b d f answers g := by
  simp only [recFn, fn, ask, add]
  split
  · rfl
  · split <;> rfl

theorem ifPresent_eq (b : BusNo) (d : DevNo) (f : FnNo) (p : ScanProc) (g : ScanLog) :
    ifPresent b d f p answers g =
      if vendorId (g.ask answers (encodeAddress b d f Config.offVendorDevice)).1 = Config.absentVendor then
        (none, (g.ask answers (encodeAddress b d f Config.offVendorDevice)).2)
      else p answers (g.ask answers (encodeAddress b d f Config.offVendorDevice)).2 := by
  simp only [ifPresent, ask]
  split <;> rfl

theorem recDev_eq (down : BusNo → ScanProc) (b : BusNo) (d : DevNo) (g : ScanLog) :
    recDev answers (fun b g => down b answers g) b d g = dev down b d answers g := by
  rw [recDev, recFn_eq, dev]
  rcases h : fn down b d 0 answers g with ⟨_ | f, g'⟩
  · rw [seq_of_none h]
    simp only [ask]
    split
    · rfl
    · rw [← scanLoop_eq]
      simp only [ifPresent_eq, recFn_eq]
  · rw [seq_of_some h]

theorem recBus_eq (depth : Nat) : recBus answers depth = fun b g => bus depth b answers g := by
  induction depth with
  | zero => rfl
  | succ depth ih =>
    funext b g
    rw [recBus, bus, ← scanLoop_eq, ih]
    simp only [ifPresent_eq, recDev_eq]

theorem recAll_eq : recAll answers = all answers ⟨0, [], []⟩ := by
  simp only [recAll, all, ask, recBus_eq]
  split
  · rfl
  · rw [← scanLoop_eq]
    simp only [ifPresent_eq]

end

/-! ### Induction over the parts -/

/-- The procedures made of the parts. -/
inductive IsScan : ScanProc → Prop
  | done : IsScan done
  | ask (a : Word) {q : Word → ScanProc} (hq : ∀ v, IsScan (q v)) : IsScan (ask a q)
  | add (d : Device) {q : ScanProc} (hq : IsScan q) : IsScan (add d q)
  | seq {p q : ScanProc} (hp : IsScan p) (hq : IsScan q) : IsScan (seq p q)

theorem isScan_loop {body : Nat → ScanProc} (h : ∀ i, IsScan (body i)) (count i : Nat) :
    IsScan (loop body count i) := by
  induction count generalizing i with
  | zero => exact .done
  | succ count ih => exact .seq (h i) (ih (i + 1))

theorem isScan_ite {c : Prop} [Decidable c] {p q : ScanProc} (hp : IsScan p) (hq : IsScan q) :
    IsScan (if c then p else q) := by
  split <;> assumption

theorem isScan_fn {down : BusNo → ScanProc} (hdown : ∀ b, IsScan (down b)) (b : BusNo) (d : DevNo) (f : FnNo) :
    IsScan (fn down b d f) :=
  .ask _ fun _ => .ask _ fun _ => .add _ (isScan_ite (.ask _ fun _ => hdown _) .done)

theorem isScan_ifPresent (b : BusNo) (d : DevNo) (f : FnNo) {p : ScanProc} (hp : IsScan p) :
    IsScan (ifPresent b d f p) :=
  .ask _ fun _ => isScan_ite .done hp

theorem isScan_dev {down : BusNo → ScanProc} (hdown : ∀ b, IsScan (down b)) (b : BusNo) (d : DevNo) :
    IsScan (dev down b d) :=
  .seq (isScan_fn hdown b d 0) <| .ask _ fun _ => isScan_ite .done <|
    isScan_loop (fun _ => isScan_ifPresent _ _ _ (isScan_fn hdown b d _)) 7 1

theorem isScan_bus (depth : Nat) (b : BusNo) : IsScan (bus depth b) := by
  induction depth generalizing b with
  | zero => exact .done
  | succ depth ih => exact isScan_loop (fun d => isScan_ifPresent _ _ _ (isScan_dev ih b _)) 32 0

theorem isScan_all : IsScan all :=
  .ask _ fun _ => isScan_ite (isScan_bus _ _) <|
    isScan_loop (fun _ => isScan_ifPresent _ _ _ (isScan_bus _ _)) 7 1

/-- The log only grows (R61, R148). -/
theorem grows_of_isScan {p : ScanProc} (h : IsScan p) (answers : Nat → Word) (g : ScanLog) :
    g.events <+: (p answers g).2.events ∧ g.devices.length ≤ (p answers g).2.devices.length := by
  induction h generalizing g with
  | done => exact ⟨List.prefix_rfl, Nat.le_refl _⟩
  | ask a hq ih =>
    obtain ⟨hev, hdev⟩ := ih (g.ask answers a).1 (g.ask answers a).2
    exact ⟨(List.prefix_append _ _).trans hev, hdev⟩
  | add d hq ih =>
    by_cases hfull : g.devices.length = 32
    · rw [add_of_full hfull]
      exact ⟨List.prefix_rfl, Nat.le_refl _⟩
    · obtain ⟨hev, hdev⟩ := ih { g with devices := g.devices ++ [d] }
      rw [List.length_append] at hdev
      rw [add_of_room hfull]
      exact ⟨hev, Nat.le_of_succ_le hdev⟩
  | @seq p q hp hq ihp ihq =>
    obtain ⟨hev, hdev⟩ := ihp g
    rcases h : p answers g with ⟨_ | f, g'⟩ <;> rw [h] at hev hdev
    · rw [seq_of_none h]
      exact ⟨hev.trans (ihq g').1, hdev.trans (ihq g').2⟩
    · rw [seq_of_some h]
      exact ⟨hev, hdev⟩

/-! ### Two scans with the answers of one function of the address (R58, R170) -/

theorem consistentWith_append_trip {read : Word → Word} {t : List Event} {a v : Word}
    (h : consistentWith read (t ++ [.wa a, .rd v])) : v = read a := by
  induction t with
  | nil => exact h.1 a v rfl rfl
  | cons e t ih =>
    apply ih
    cases t <;> exact h.2

theorem consistentWith_of_isPrefix {read : Word → Word} {t u : List Event} (htu : t <+: u)
    (h : consistentWith read u) : consistentWith read t := by
  induction t generalizing u with
  | nil => trivial
  | cons e t ih =>
    obtain ⟨rest, rfl⟩ := htu
    cases t with
    | nil => trivial
    | cons e' t => exact ⟨h.1, ih (List.prefix_append _ rest) h.2⟩

/-- Where the answers are those of one function of the address, they alone fix what a procedure does (R170). -/
theorem eq_of_consistent {p : ScanProc} (h : IsScan p) (read : Word → Word) (answers answers' : Nat → Word)
    (g : ScanLog) (hc : consistentWith read (p answers g).2.events)
    (hc' : consistentWith read (p answers' g).2.events) : p answers g = p answers' g := by
  induction h generalizing g with
  | done => rfl
  | @ask a q hq ih =>
    have first (answers : Nat → Word) (h : consistentWith read (ask a q answers g).2.events) :
        answers g.next = read a :=
      consistentWith_append_trip
        (consistentWith_of_isPrefix (grows_of_isScan (hq _) answers (g.ask answers a).2).1 h)
    have same : g.ask answers a = g.ask answers' a := by
      rw [ScanLog.ask, ScanLog.ask, first answers hc, first answers' hc']
    have hc₂ : consistentWith read (q (g.ask answers a).1 answers' (g.ask answers a).2).2.events := by
      rw [same]
      exact hc'
    have rest := ih (g.ask answers a).1 (g.ask answers a).2 hc hc₂
    rw [ask, rest, same]
    rfl
  | add d hq ih =>
    by_cases hfull : g.devices.length = 32
    · rw [add_of_full hfull, add_of_full hfull]
    · rw [add_of_room hfull] at hc hc' ⊢
      rw [add_of_room hfull]
      exact ih _ hc hc'
  | @seq p q hp hq ihp ihq =>
    have first (answers : Nat → Word) (h : consistentWith read (seq p q answers g).2.events) :
        consistentWith read (p answers g).2.events := by
      rcases hpg : p answers g with ⟨_ | f, g'⟩
      · rw [seq_of_none hpg] at h
        exact consistentWith_of_isPrefix (grows_of_isScan hq answers g').1 h
      · rwa [seq_of_some hpg] at h
    have same := ihp g (first answers hc) (first answers' hc')
    rcases hpg : p answers g with ⟨_ | f, g'⟩ <;> rw [hpg] at same
    · rw [seq_of_none hpg] at hc ⊢
      rw [seq_of_none same.symm] at hc' ⊢
      exact ihq g' hc hc'
    · rw [seq_of_some hpg, seq_of_some same.symm]

/-! ### The size of a scan (R167, R169) -/

/-- A bound on the events of a procedure, `c` beside what its entries and its failure account for: 86 for each entry
(SCANFN's 6, its SCANDEV's 16 and its SCANBUS's 64) and 22 for the SCANFN that fails. -/
def Costs (c : Int) (p : ScanProc) : Prop :=
  ∀ answers g, g.devices.length ≤ 32 → (p answers g).2.devices.length ≤ 32 ∧
    ((p answers g).2.events.length : Int) + 86 * g.devices.length ≤
      g.events.length + 86 * (p answers g).2.devices.length + (if (p answers g).1.isSome then 22 else 0) + c

theorem Costs.mono {c c' : Int} {p : ScanProc} (h : Costs c p) (hc : c ≤ c') : Costs c' p := by
  intro answers g hg
  obtain ⟨hdev, hev⟩ := h answers g hg
  exact ⟨hdev, by omega⟩

theorem costs_done : Costs 0 done := by
  intro answers g hg
  exact ⟨hg, by simp [done]⟩

theorem costs_ask (a : Word) {c : Int} {q : Word → ScanProc} (hq : ∀ v, Costs c (q v)) : Costs (c + 2) (ask a q) := by
  intro answers g hg
  obtain ⟨hdev, hev⟩ := hq (g.ask answers a).1 answers (g.ask answers a).2 hg
  have hlen : (g.ask answers a).2.events.length = g.events.length + 2 := by simp [ScanLog.ask]
  have hsame : (g.ask answers a).2.devices = g.devices := rfl
  rw [hlen, hsame] at hev
  exact ⟨hdev, by rw [ask]; omega⟩

theorem costs_add (d : Device) {c : Int} {q : ScanProc} (hq : Costs c q) (hc : 64 ≤ c) : Costs (c - 86) (add d q) := by
  intro answers g hg
  by_cases hfull : g.devices.length = 32
  · rw [add_of_full hfull]
    exact ⟨hg, by simp only [Option.isSome_some, if_true]; omega⟩
  · have hlen : (g.devices ++ [d]).length = g.devices.length + 1 := by simp
    obtain ⟨hdev, hev⟩ := hq answers { g with devices := g.devices ++ [d] } (by rw [hlen]; omega)
    simp only [hlen] at hev
    rw [add_of_room hfull]
    exact ⟨hdev, by omega⟩

theorem costs_seq {c c' : Int} {p q : ScanProc} (hp : Costs c p) (hq : Costs c' q) (hc : 0 ≤ c') :
    Costs (c + c') (seq p q) := by
  intro answers g hg
  obtain ⟨hdev, hev⟩ := hp answers g hg
  rcases h : p answers g with ⟨_ | f, g'⟩ <;> rw [h] at hdev hev
  · obtain ⟨hdev', hev'⟩ := hq answers g' hdev
    rw [seq_of_none h]
    refine ⟨hdev', ?_⟩
    simp only [Option.isSome_none, Bool.false_eq_true, if_false] at hev
    omega
  · rw [seq_of_some h]
    exact ⟨hdev, by omega⟩

theorem costs_loop {c : Int} {body : Nat → ScanProc} (h : ∀ i, Costs c (body i)) (hc : 0 ≤ c) (count i : Nat) :
    Costs (count * c) (loop body count i) := by
  induction count generalizing i with
  | zero => exact costs_done.mono (by simp)
  | succ count ih =>
    refine (costs_seq (h i) (ih (i + 1)) (by positivity)).mono ?_
    push_cast
    linarith

theorem costs_ite {c : Int} {b : Prop} [Decidable b] {p q : ScanProc} (hp : Costs c p) (hq : Costs c q) :
    Costs c (if b then p else q) := by
  split <;> assumption

/-- SCANFN: 6 events and the 64 of a SCANBUS, of the 86 its entry accounts for. -/
theorem costs_fn {down : BusNo → ScanProc} (hdown : ∀ b, Costs 64 (down b)) (b : BusNo) (d : DevNo) (f : FnNo) :
    Costs (-16) (fn down b d f) := by
  have below : Costs 66 (ask (encodeAddress b d f Config.offBusNumbers) fun w => down (secondaryBus w)) :=
    costs_ask _ fun w => hdown _
  have added (c : ClassCode) (h : Word) := costs_add ⟨b, d, f, headerType h, c⟩
    (costs_ite (b := matchBaseSub c Config.bridgeBase Config.bridgeSub = true) below (costs_done.mono (by decide)))
    (by decide)
  exact costs_ask _ fun c => costs_ask _ fun h => added (classCodeOf c) h

theorem costs_ifPresent (b : BusNo) (d : DevNo) (f : FnNo) {c : Int} {p : ScanProc} (hp : Costs c p) (hc : 0 ≤ c) :
    Costs (c + 2) (ifPresent b d f p) :=
  costs_ask _ fun _ => costs_ite (costs_done.mono hc) hp

/-- SCANDEV: its 16 events are accounted for by function 0's entry. -/
theorem costs_dev {down : BusNo → ScanProc} (hdown : ∀ b, Costs 64 (down b)) (b : BusNo) (d : DevNo) :
    Costs 0 (dev down b d) := by
  have functions := costs_loop (fun f => costs_ifPresent b d (BitVec.ofNat 3 f)
    ((costs_fn hdown b d (BitVec.ofNat 3 f)).mono (c' := 0) (by decide)) (by decide)) (by decide) 7 1
  have header := costs_ask (encodeAddress b d 0 Config.offHeader)
    (fun h => costs_ite (b := isSingle (headerType h) = true) (costs_done.mono (by decide)) functions)
  exact costs_seq (costs_fn hdown b d 0) header (by decide)

/-- SCANBUS: 32 round trips of its own. -/
theorem costs_bus (depth : Nat) (b : BusNo) : Costs 64 (bus depth b) := by
  induction depth generalizing b with
  | zero => exact costs_done.mono (by decide)
  | succ depth ih =>
    exact costs_loop (fun d => costs_ifPresent b _ 0 (costs_dev ih b _) (by decide)) (by decide) 32 0

/-- SCANALL: 8 round trips of its own and 7 root buses. -/
theorem costs_all : Costs 464 all := by
  have segments := costs_loop (fun f => costs_ifPresent 0 0 (BitVec.ofNat 3 f)
    (costs_bus Config.stackDepth (functionAsBus f)) (by decide)) (by decide) 7 1
  exact costs_ask _ fun h => costs_ite ((costs_bus _ _).mono (by decide)) segments

end ScanProc

/-- The events of a scan (R169). -/
theorem recAll_events_length (answers : Nat → Word) : (recAll answers).2.events.length ≤ 3238 := by
  obtain ⟨hdev, hev⟩ := ScanProc.costs_all answers ⟨0, [], []⟩ (by decide)
  rw [ScanProc.recAll_eq]
  simp only [List.length_nil] at hev
  split at hev <;> omega

end Sys2Proof.Machine
end

/-! ## The engine performs the recursion (spec/43_scanner.md R168)

Each part of the recursion is matched by a rule for the action of the innermost activation that performs it; the
engine's rules are then put together as the recursion's procedures are. -/

section

namespace Sys2Proof.Machine

/-- A Busy engine that has done what the log says since `s₀`. -/
structure Tracks (s₀ : State) (g : ScanLog) (s : State) : Prop where
  run : s.run = .busy
  commands : s.commands = s₀.commands
  responses : s.responses = s₀.responses
  trace : s.trace = s₀.trace ++ g.events
  entries : s.entries = g.devices
  count : s.regCount.toNat = g.devices.length

/-- The platform's answers from index `n` on are those of the list. -/
def Supplies (answers : Nat → Word) (n : Nat) (l : List Word) : Prop :=
  ∀ i v, l[i]? = some v → answers (n + i) = v

/-- What a scanner procedure returns to its caller (R164). -/
def returnedOf (r : ScanResult) : Returned :=
  match r.1 with
  | none => .value 0
  | some f => .failed f

/-- The innermost activation `b` is about to end, and `k` steps have done what `r` says, the platform having answered
`m` reads since `g`. The bound on the steps allows one for each read, 9 for each entry, 9 for the SCANFN that fails,
and `c`. -/
structure Performed (s₀ : State) (g : ScanLog) (c : Int) (k m : Nat) (b : Activation) (t : State) (r : ScanResult) :
    Prop where
  tracks : Tracks s₀ r.2 t
  ends : nextAction b t.ret = .finish (returnedOf r)
  next : r.2.next = g.next + m
  steps : (2 * k : Int) + g.events.length + 18 * g.devices.length ≤
    r.2.events.length + 18 * r.2.devices.length + (if r.1.isSome then 18 else 0) + 2 * c

/-- The engine, its innermost activation taking the action `A`, runs to that activation's end and does what `p` does
on the same answers, from any log with at least `n` devices. -/
def Performs (n : Nat) (c : Int) (A : Action) (p : ScanProc) : Prop :=
  ∀ (s₀ s : State) (g : ScanLog) (a : Activation) (rest : List Activation),
    Tracks s₀ g s → s.cursor = a :: rest → nextAction a s.ret = A → n ≤ g.devices.length →
    ∃ (k : Nat) (t : State) (b : Activation) (l : List Word) (r : ScanResult), Runs k s t ∧ t.cursor = b :: rest ∧
      Performed s₀ g c k l.length b t r ∧ ∀ answers, Supplies answers g.next l → p answers g = r

/-! ### Answers -/

theorem supplies_getD (n : Nat) (l : List Word) : Supplies (fun i => l[i - n]?.getD 0) n l := by
  intro i v h
  simp [h]

theorem supplies_cons {answers : Nat → Word} {n : Nat} {w : Word} {l : List Word}
    (h : Supplies answers n (w :: l)) : answers n = w ∧ Supplies answers (n + 1) l := by
  refine ⟨h 0 w rfl, fun i v hi => ?_⟩
  rw [Nat.add_assoc, Nat.add_comm 1 i]
  exact h (i + 1) v hi

theorem supplies_append {answers : Nat → Word} {n : Nat} {l l' : List Word} (h : Supplies answers n (l ++ l')) :
    Supplies answers n l ∧ Supplies answers (n + l.length) l' := by
  constructor
  · intro i v hi
    exact h i v (List.getElem?_append_left (List.getElem?_eq_some_iff.mp hi).1 ▸ hi)
  · intro i v hi
    rw [Nat.add_assoc]
    refine h _ v ?_
    rw [List.getElem?_append_right (Nat.le_add_right _ _), Nat.add_sub_cancel_left]
    exact hi

/-! ### The registry of a tracked state -/

theorem State.entries_length_le (s : State) : s.entries.length ≤ 32 := by
  simp [State.entries]

theorem Tracks.length_le {s₀ s : State} {g : ScanLog} (h : Tracks s₀ g s) : g.devices.length ≤ 32 := by
  rw [← h.entries]
  exact s.entries_length_le

/-- The cursor and the return latch are not part of the log. -/
theorem Tracks.engine {s₀ s : State} {g : ScanLog} (h : Tracks s₀ g s) (cursor : List Activation)
    (ret : Option Returned) : Tracks s₀ g { s with cursor := cursor, ret := ret } :=
  ⟨h.run, h.commands, h.responses, h.trace, h.entries, h.count⟩

/-- The log after a round trip at `a` that was answered `w` (R130). -/
def ScanLog.afterAnswer (g : ScanLog) (a w : Word) : ScanLog :=
  { g with next := g.next + 1, events := g.events ++ [.wa a, .rd w] }

theorem ScanLog.ask_of_answer {g : ScanLog} {answers : Nat → Word} {w : Word} (h : answers g.next = w) (a : Word) :
    g.ask answers a = (w, g.afterAnswer a w) := by
  rw [ScanLog.ask, h, ScanLog.afterAnswer]

@[simp] theorem ScanLog.afterAnswer_next (g : ScanLog) (a w : Word) : (g.afterAnswer a w).next = g.next + 1 := rfl

@[simp] theorem ScanLog.afterAnswer_devices (g : ScanLog) (a w : Word) :
    (g.afterAnswer a w).devices = g.devices := rfl

@[simp] theorem ScanLog.afterAnswer_events_length (g : ScanLog) (a w : Word) :
    (g.afterAnswer a w).events.length = g.events.length + 2 := by
  simp [ScanLog.afterAnswer]

/-- A read adds its round trip. -/
theorem Tracks.readConfig {s₀ s : State} {g : ScanLog} (h : Tracks s₀ g s) (bus : BusNo) (dev : DevNo) (fn : FnNo)
    (o : Byte) : Tracks s₀ (g.afterAnswer (encodeAddress bus dev fn o) (s.readConfig bus dev fn o).1)
      (s.readConfig bus dev fn o).2 where
  run := (s.readConfig_run bus dev fn o).trans h.run
  commands := (s.readConfig_commands bus dev fn o).trans h.commands
  responses := (s.readConfig_responses bus dev fn o).trans h.responses
  trace := by rw [State.readConfig_trace, h.trace, ScanLog.afterAnswer, List.append_assoc]
  entries := (State.entries_congr (s.readConfig_regCount bus dev fn o) (s.readConfig_regEntry bus dev fn o)).trans
    h.entries
  count := by rw [State.readConfig_regCount]; exact h.count

/-- REGADD below 32 adds its entry. -/
theorem Tracks.regAdd {s₀ s : State} {g : ScanLog} (h : Tracks s₀ g s) (d : Device) (hroom : g.devices.length ≠ 32) :
    (s.regAdd d).1 = .value 0 ∧ Tracks s₀ { g with devices := g.devices ++ [d] } (s.regAdd d).2 := by
  have hlt : s.regCount.toNat < 32 := by
    have := h.length_le
    rw [h.count]
    omega
  have hne : s.regCount ≠ 32 := by
    intro he
    rw [he] at hlt
    exact absurd hlt (by decide)
  rw [s.regAdd_append d hne]
  refine ⟨rfl, h.run, h.commands, h.responses, h.trace, ?_, ?_⟩
  · rw [s.entries_append d hlt, h.entries]
  · show (s.regCount + 1).toNat = (g.devices ++ [d]).length
    rw [List.length_append, List.length_singleton, ← h.count]
    bv_omega

/-! ### The rules -/

variable {n : Nat} {c : Int}

theorem Performed.mono {s₀ t : State} {g : ScanLog} {c c' : Int} {k m : Nat} {b : Activation} {r : ScanResult}
    (h : Performed s₀ g c k m b t r) (hc : c ≤ c') : Performed s₀ g c' k m b t r :=
  ⟨h.tracks, h.ends, h.next, by have := h.steps; omega⟩

theorem Performs.mono {c' : Int} {A : Action} {p : ScanProc} (h : Performs n c A p) (hc : c ≤ c') :
    Performs n c' A p := by
  intro s₀ s g a rest hs hcur hA hn
  obtain ⟨k, t, b, l, r, hrun, htcur, hdone, hp⟩ := h s₀ s g a rest hs hcur hA hn
  exact ⟨k, t, b, l, r, hrun, htcur, hdone.mono hc, hp⟩

/-- A log has at most 32 devices: with room for 33 SCANBUS nothing is left to perform (R168). -/
theorem performs_of_full (hn : 33 ≤ n) (A : Action) (p : ScanProc) : Performs n c A p := by
  intro s₀ s g a rest hs _ _ hlen
  exact absurd hs.length_le (by omega)

/-- An activation that ends performs nothing more. -/
theorem performs_done : Performs n 0 (.finish (.value 0)) ScanProc.done := by
  intro s₀ s g a rest hs hcur hA _
  exact ⟨0, s, a, [], (none, g), .refl s, hcur, ⟨hs, hA, rfl, by simp⟩, fun _ _ => rfl⟩

/-- An issued read performs an ask; what follows depends on the answer returned. -/
theorem performs_ask {i : Instr} {a' : Activation} {bus : BusNo} {dev : DevNo} {fn : FnNo} {o : Byte}
    {ret : Word → Returned} {q : Word → ScanProc}
    (hi : ∀ s, exec i s = .next ((s.readConfig bus dev fn o).2.deliver (ret (s.readConfig bus dev fn o).1)))
    (hq : ∀ w, Performs n c (nextAction a' (some (ret w))) (q w)) :
    Performs n c (.issue i a') (.ask (encodeAddress bus dev fn o) q) := by
  intro s₀ s g a rest hs hcur hA hn
  have hwait := hs.engine (a' :: rest) none
  generalize hu : ({ s with cursor := a' :: rest, ret := none } : State) = u at hwait
  have hucur : u.cursor = a' :: rest := by rw [← hu]
  generalize hw : (u.readConfig bus dev fn o).1 = w
  have hstep : step s = .next { (u.readConfig bus dev fn o).2 with ret := some (ret w) } := by
    rw [step_issue s a a' rest i hs.run hcur hA, hu, hi, hw,
      State.deliver_rule _ _ (by rw [State.readConfig_cursor, hucur]; exact List.cons_ne_nil _ _)]
  have hread : Tracks s₀ (g.afterAnswer (encodeAddress bus dev fn o) w)
      { (u.readConfig bus dev fn o).2 with ret := some (ret w) } :=
    hw ▸ (hwait.readConfig bus dev fn o).engine _ _
  obtain ⟨k, t, b, l, r, hrun, htcur, ⟨htracks, hends, hnext, hsteps⟩, hp⟩ :=
    hq w s₀ _ _ a' rest hread ((u.readConfig_cursor bus dev fn o).trans hucur) rfl hn
  simp only [ScanLog.afterAnswer_next, ScanLog.afterAnswer_events_length, ScanLog.afterAnswer_devices]
    at hnext hsteps
  refine ⟨k + 1, t, b, w :: l, r, .cons hstep hrun, htcur, ⟨htracks, hends, ?_, ?_⟩, fun answers ha => ?_⟩
  · rw [hnext, List.length_cons]
    omega
  · push_cast at hsteps ⊢
    omega
  · obtain ⟨hw', hl⟩ := supplies_cons ha
    rw [ScanProc.ask, ScanLog.ask_of_answer hw']
    exact hp answers hl

/-- An issued predicate is no part of the recursion's log; its answer decides what follows. -/
theorem performs_test {i : Instr} {a' : Activation} {b : Bool} {p : ScanProc}
    (hi : ∀ s, exec i s = .next (s.internally (s.deliver (.truth b))))
    (hp : Performs n c (nextAction a' (some (.truth b))) p) : Performs n (c + 1) (.issue i a') p := by
  intro s₀ s g a rest hs hcur hA hn
  have hstep : step s = .next { s with cursor := a' :: rest, ret := some (.truth b) } := by
    rw [step_issue s a a' rest i hs.run hcur hA, hi, State.internally_deliver_rule _ _ (List.cons_ne_nil _ _)]
  obtain ⟨k, t, e, l, r, hrun, htcur, ⟨htracks, hends, hnext, hsteps⟩, hp⟩ :=
    hp s₀ _ g a' rest (hs.engine _ _) rfl rfl hn
  exact ⟨k + 1, t, e, l, r, .cons hstep hrun, htcur, ⟨htracks, hends, hnext, by push_cast; omega⟩, hp⟩

/-- An issued REGADD performs an append, or ends the activation with `Full` (R141, R164). -/
theorem performs_add {d : Device} {a' : Activation} {q : ScanProc} (hw : a'.waitsFor = .result) (hc : 0 ≤ c)
    (hq : Performs (n + 1) c (nextAction a' (some (.value 0))) q) :
    Performs n (c - 8) (.issue (.regadd d) a') (.add d q) := by
  intro s₀ s g a rest hs hcur hA hn
  have hwait := hs.engine (a' :: rest) none
  generalize hu : ({ s with cursor := a' :: rest, ret := none } : State) = u at hwait
  have hucur : u.cursor = a' :: rest := by rw [← hu]
  have hstep : step s = .next { (u.regAdd d).2 with ret := some (u.regAdd d).1 } := by
    rw [step_issue s a a' rest _ hs.run hcur hA, hu, exec_regadd_of_ne_nil d (hucur ▸ List.cons_ne_nil _ _)]
  by_cases hfull : g.devices.length = 32
  · have hcount : u.regCount = 32 := BitVec.eq_of_toNat_eq (hwait.count.trans hfull)
    rw [u.regAdd_full d hcount] at hstep
    exact ⟨1, _, a', [], (some .full, g), .single hstep, hucur,
      ⟨hwait.engine _ _, nextAction_of_failed hw .full, rfl, by simp; omega⟩,
      fun answers _ => ScanProc.add_of_full hfull⟩
  · obtain ⟨hret, hadd⟩ := hwait.regAdd d hfull
    obtain ⟨k, t, b, l, r, hrun, htcur, ⟨htracks, hends, hnext, hsteps⟩, hp⟩ :=
      hq s₀ { (u.regAdd d).2 with ret := some (u.regAdd d).1 } _ a' rest (hadd.engine _ _)
        ((u.regAdd_cursor d).trans hucur) (by rw [hret]) (by simpa using hn)
    refine ⟨k + 1, t, b, l, r, .cons hstep hrun, htcur, ⟨htracks, hends, hnext, ?_⟩, fun answers ha => ?_⟩
    · simp only [List.length_append, List.length_singleton] at hsteps
      push_cast at hsteps ⊢
      omega
    · rw [ScanProc.add_of_room hfull]
      exact hp answers ha

/-- An issued procedure, performed to its end, performs a call: its success goes on in the caller, its failing kind
ends the caller (R164). -/
theorem performs_call {c' : Int} {i : Instr} {a' callee : Activation} {p q : ScanProc}
    (hi : ∀ s, exec i s = .next (s.internally (s.call callee))) (hw : a'.waitsFor = .result)
    (hp : Performs n c (nextAction callee none) p) (hgrows : ScanProc.IsScan p)
    (hq : Performs n c' (nextAction a' (some (.value 0))) q) (hc : 0 ≤ c') :
    Performs n (c + c' + 2) (.issue i a') (.seq p q) := by
  intro s₀ s g a rest hs hcur hA hn
  have hstep : step s = .next { s with cursor := callee :: a' :: rest, ret := none } := by
    rw [step_issue s a a' rest i hs.run hcur hA, hi, State.internally_rule _ _ (List.cons_ne_nil _ _)]
    rfl
  obtain ⟨k, t, b, l, ⟨kind, g'⟩, hrun, htcur, ⟨htracks, hends, hnext, hsteps⟩, hpg⟩ :=
    hp s₀ _ g callee (a' :: rest) (hs.engine _ _) rfl rfl hn
  have hback := step_finish_caller htracks.run htcur hends
  have hgrow : g.devices.length ≤ g'.devices.length := by
    have := (ScanProc.grows_of_isScan hgrows (fun i => l[i - g.next]?.getD 0) g).2
    rwa [hpg _ (supplies_getD g.next l)] at this
  cases kind with
  | some f =>
    refine ⟨k + 1 + 1, _, a', l, (some f, g'), .cons hstep (hrun.trans (.single hback)), rfl,
      ⟨htracks.engine _ _, nextAction_of_failed hw f, hnext, ?_⟩, fun answers ha => ScanProc.seq_of_some (hpg answers ha)⟩
    push_cast at hsteps ⊢
    omega
  | none =>
    obtain ⟨k', t', b', l', r, hrun', htcur', ⟨htracks', hends', hnext', hsteps'⟩, hqg⟩ :=
      hq s₀ _ g' a' rest (htracks.engine _ _) rfl rfl (hn.trans hgrow)
    refine ⟨k + 1 + k' + 1, t', b', l ++ l', r, .cons hstep ((hrun.trans (.single hback)).trans hrun'), htcur',
      ⟨htracks', hends', ?_, ?_⟩, fun answers ha => ?_⟩
    · rw [hnext', List.length_append, ← Nat.add_assoc]
      exact congrArg (· + l'.length) hnext
    · simp only [Option.isSome_none, Bool.false_eq_true, if_false] at hsteps
      push_cast at hsteps ⊢
      omega
    · obtain ⟨hl, hl'⟩ := supplies_append ha
      rw [ScanProc.seq_of_none (hpg answers hl)]
      exact hqg answers (hnext ▸ hl')

end Sys2Proof.Machine
end

/-! ## The scanner's procedures, put together (spec/43_scanner.md R160 to R163, R167 to R170) -/

section

namespace Sys2Proof.Machine

variable {n : Nat}

/-- A call in the round of a loop. -/
theorem seq_ask (a : Word) (q : Word → ScanProc) (r : ScanProc) :
    ScanProc.seq (.ask a q) r = .ask a fun w => .seq (q w) r := rfl

theorem seq_done_left (r : ScanProc) : ScanProc.seq .done r = r := rfl

theorem seq_done_right (p : ScanProc) : ScanProc.seq p .done = p := by
  funext answers g
  rcases h : p answers g with ⟨_ | f, g'⟩
  · rw [ScanProc.seq_of_none h, ScanProc.done]
  · rw [ScanProc.seq_of_some h]

theorem seq_ite {b : Prop} [Decidable b] (p q r : ScanProc) :
    ScanProc.seq (if b then p else q) r = if b then .seq p r else .seq q r := by
  split <;> rfl

/-- The loops of R160 to R162 as the engine has them: index `j` asks for the vendor id of a function and, where it is
present, calls a procedure on it; either way the next index follows. -/
structure LoopRule (next : Nat → Action) (limit : Nat) (bus : BusNo) (dev : Nat → DevNo) (fn : Nat → FnNo)
    (asks calls callee : Nat → Activation) (i : Nat → Instr) : Prop where
  go : ∀ j, j < limit → next j = .issue (.rdvendor bus (dev j) (fn j)) (asks j)
  stop : next limit = .finish (.value 0)
  vendor : ∀ j (v : BitVec 16), nextAction (asks j) (some (.value (v.setWidth 64))) =
    if v = Config.absentVendor then next (j + 1) else .issue (i j) (calls j)
  invokes : ∀ j s, exec (i j) s = .next (s.internally (s.call (callee j)))
  waitsFor : ∀ j, (calls j).waitsFor = .result
  back : ∀ j, nextAction (calls j) (some (.value 0)) = next (j + 1)

/-- A loop of the engine performs the recursion's loop, if the procedure it calls performs the loop's body. -/
theorem LoopRule.performs {next : Nat → Action} {limit : Nat} {bus : BusNo} {dev : Nat → DevNo} {fn : Nat → FnNo}
    {asks calls callee : Nat → Activation} {i : Nat → Instr}
    (rule : LoopRule next limit bus dev fn asks calls callee i) {c : Int} (hc : 0 ≤ c + 2) {p : Nat → ScanProc}
    (hp : ∀ j, Performs n c (nextAction (callee j) none) (p j)) (hscan : ∀ j, (p j).IsScan) (count j : Nat)
    (hj : j + count = limit) :
    Performs n (count * (c + 2)) (next j)
      (.loop (fun j => .ifPresent bus (dev j) (fn j) (p j)) count j) := by
  induction count generalizing j with
  | zero =>
    obtain rfl : j = limit := hj
    rw [rule.stop]
    exact performs_done.mono (by simp)
  | succ count ih =>
    have rest := ih (j + 1) (by omega)
    have hrest : (0 : Int) ≤ count * (c + 2) := by positivity
    have total : ((count + 1 : Nat) : Int) * (c + 2) = c + count * (c + 2) + 2 := by
      push_cast
      ring
    rw [rule.go j (by omega), ScanProc.loop, ScanProc.ifPresent, seq_ask, total]
    refine performs_ask (ret := fun w => .value ((vendorId w).setWidth 64)) (exec_rdvendor _ _ _) fun w => ?_
    rw [rule.vendor, seq_ite, seq_done_left]
    split
    · exact rest.mono (by omega)
    · exact performs_call (rule.invokes j) (rule.waitsFor j) (hp j) (hscan j) (by rw [rule.back]; exact rest) hrest

theorem exec_scanbus (b : BusNo) (s : State) :
    exec (.scanbus b) s = .next (s.internally (s.call (.scanBus .start b 0))) := rfl

theorem exec_scandev (b : BusNo) (d : DevNo) (s : State) :
    exec (.scandev b d) s = .next (s.internally (s.call (.scanDev .start b d 1))) := rfl

theorem exec_scanfn (b : BusNo) (d : DevNo) (f : FnNo) (s : State) :
    exec (.scanfn b d f) s = .next (s.internally (s.call (.scanFn .start b d f 0 .zero))) := rfl

theorem busLoop (b : BusNo) : LoopRule (nextDevice b) 32 b (BitVec.ofNat 5) (fun _ => 0) (.scanBus .vendor b)
    (.scanBus .device b) (fun d => .scanDev .start b (BitVec.ofNat 5 d) 1) (fun d => .scandev b (BitVec.ofNat 5 d)) where
  go _ hj := if_pos hj
  stop := rfl
  vendor j v := nextAction_scanBus_vendor b j v
  invokes _ _ := rfl
  waitsFor _ := rfl
  back _ := rfl

theorem devLoop (b : BusNo) (d : DevNo) : LoopRule (nextFunction b d) 8 b (fun _ => d) (BitVec.ofNat 3)
    (.scanDev .vendor b d) (.scanDev .function b d) (fun f => .scanFn .start b d (BitVec.ofNat 3 f) 0 .zero)
    (fun f => .scanfn b d (BitVec.ofNat 3 f)) where
  go _ hj := if_pos hj
  stop := rfl
  vendor _ v := ite_isAbsent v _ _
  invokes _ _ := rfl
  waitsFor _ := rfl
  back _ := rfl

theorem rootLoop : LoopRule nextRoot 8 0 (fun _ => 0) (BitVec.ofNat 3) (.scanAll .vendor) (.scanAll .segment)
    (fun f => .scanBus .start (functionAsBus f) 0) (fun f => .scanbus (functionAsBus f)) where
  go _ hj := if_pos hj
  stop := rfl
  vendor _ v := ite_isAbsent v _ _
  invokes _ _ := rfl
  waitsFor _ := rfl
  back _ := rfl

/-- SCANFN performs `ScanProc.fn`, if SCANBUS, one device later, performs what is below a bridge. -/
theorem performs_fn {down : BusNo → ScanProc} (hscan : ∀ b, (down b).IsScan)
    (hdown : ∀ b, Performs (n + 1) 0 (nextAction (.scanBus .start b 0) none) (down b)) (b : BusNo) (d : DevNo)
    (f : FnNo) (header : Byte) (c : ClassCode) :
    Performs n (-5) (nextAction (.scanFn .start b d f header c) none) (.fn down b d f) := by
  have below (h : Byte) (c : ClassCode) : Performs (n + 1) 2 (.issue (.rdbusnum b d f) (.scanFn .busNumbers b d f h c))
      (.ask (encodeAddress b d f Config.offBusNumbers) fun w => down (secondaryBus w)) := by
    refine performs_ask (ret := fun w => .value (w.setWidth 64)) (exec_rdbusnum b d f) fun w => ?_
    show Performs _ _ (.issue (.scanbus (secondaryBus ((w.setWidth 64).setWidth 32))) _) _
    rw [setWidth_setWidth_self w (by decide), ← seq_done_right (down _)]
    exact performs_call (c := 0) (c' := 0) (exec_scanbus _) rfl (hdown _) (hscan _) performs_done (by decide)
  have bridge (h : Byte) (c : ClassCode) : Performs (n + 1) 3 (nextAction (.scanFn .add b d f h c) (some (.value 0)))
      (if matchBaseSub c Config.bridgeBase Config.bridgeSub then
        .ask (encodeAddress b d f Config.offBusNumbers) fun w => down (secondaryBus w)
      else .done) := by
    show Performs _ _ (.issue (.ccmatch2 c Config.bridgeBase Config.bridgeSub) (.scanFn .bridge b d f h c)) _
    refine performs_test (c := 2) (exec_ccmatch2 _ _ _) ?_
    cases matchBaseSub c Config.bridgeBase Config.bridgeSub
    · exact performs_done.mono (by decide)
    · exact below h c
  refine performs_ask (ret := fun w => .classCode (classCodeOf w)) (exec_rdclass b d f) fun c' => ?_
  show Performs _ _ (.issue (.rdhdr b d f) (.scanFn .header b d f header (classCodeOf c'))) _
  refine performs_ask (ret := fun w => .value ((headerType w).setWidth 64)) (exec_rdhdr b d f) fun h => ?_
  show Performs _ _ (.issue (.regadd ⟨b, d, f, ((headerType h).setWidth 64).setWidth 8, _⟩) _) _
  rw [setWidth_setWidth_self (headerType h) (by decide)]
  exact performs_add rfl (by decide) (bridge _ _)

/-- SCANDEV performs `ScanProc.dev`. -/
theorem performs_dev {down : BusNo → ScanProc} (hscan : ∀ b, (down b).IsScan)
    (hdown : ∀ b, Performs (n + 1) 0 (nextAction (.scanBus .start b 0) none) (down b)) (b : BusNo) (d : DevNo)
    (f : Nat) : Performs n (-2) (nextAction (.scanDev .start b d f) none) (.dev down b d) := by
  have functions := (devLoop b d).performs (c := -2) (by decide)
    (fun j => (performs_fn hscan hdown b d (BitVec.ofNat 3 j) 0 .zero).mono (by decide))
    (fun j => ScanProc.isScan_fn hscan b d (BitVec.ofNat 3 j)) 7 1 rfl
  refine performs_call (c := -5) (c' := 1) (exec_scanfn b d 0) rfl (performs_fn hscan hdown b d 0 0 .zero)
    (ScanProc.isScan_fn hscan b d 0) (performs_ask (ret := fun w => .value ((headerType w).setWidth 64)) (exec_rdhdr b d 0) fun h => ?_) (by decide)
  show Performs _ _ (.issue (.issingle (((headerType h).setWidth 64).setWidth 8)) _) _
  rw [setWidth_setWidth_self (headerType h) (by decide)]
  refine performs_test (c := 0) (exec_issingle _) ?_
  cases isSingle (headerType h)
  · exact functions
  · exact performs_done

/-- SCANBUS performs `ScanProc.bus`, if its activations and the entries together fill the registry before the
recursion's own bound on its depth is reached (R168). -/
theorem performs_bus (depth : Nat) (hn : 33 ≤ n + depth) (b : BusNo) :
    Performs n 0 (nextAction (.scanBus .start b 0) none) (.bus depth b) := by
  induction depth generalizing n b with
  | zero => exact performs_of_full hn _ _
  | succ depth ih =>
    exact (busLoop b).performs (c := -2) (by decide)
      (fun d => performs_dev (ScanProc.isScan_bus depth) (ih (by omega)) b (BitVec.ofNat 5 d) 1)
      (fun d => ScanProc.isScan_dev (ScanProc.isScan_bus depth) b (BitVec.ofNat 5 d)) 32 0 rfl

/-- SCANALL, its registry emptied, performs `ScanProc.all`. -/
theorem performs_all : Performs 0 15 (nextAction (.scanAll .reset 1) (some (.value 0))) .all := by
  have segments := rootLoop.performs (n := 0) (c := 0) (by decide)
    (fun f => performs_bus Config.stackDepth (by decide) (functionAsBus f))
    (fun f => ScanProc.isScan_bus Config.stackDepth (functionAsBus f)) 7 1 rfl
  have root : Performs 0 2 (.issue (.scanbus 0) (.scanAll .root 1)) (.bus Config.stackDepth 0) := by
    rw [← seq_done_right (ScanProc.bus _ _)]
    exact performs_call (c := 0) (c' := 0) (exec_scanbus 0) rfl (performs_bus Config.stackDepth (by decide) 0)
      (ScanProc.isScan_bus _ 0) performs_done (by decide)
  refine performs_ask (ret := fun w => .value ((headerType w).setWidth 64)) (exec_rdhdr 0 0 0) fun h => ?_
  show Performs _ _ (.issue (.issingle (((headerType h).setWidth 64).setWidth 8)) _) _
  rw [setWidth_setWidth_self (headerType h) (by decide)]
  refine performs_test (c := 14) (exec_issingle _) ?_
  cases isSingle (headerType h)
  · exact segments
  · exact root.mono (c' := 14) (by decide)

/-! ### A procedure, from its call to its return (R168) -/

/-- In `t` the procedure that was called in `s` has returned, and has done what `r` says. -/
def State.ReturnsWith (s t : State) (r : ScanResult) : Prop :=
  t.run = .busy ∧ t.cursor = s.cursor ∧ t.commands = s.commands ∧ t.responses = s.responses ∧
  t.trace = s.trace ++ r.2.events ∧ t.entries = r.2.devices ∧ t.regCount.toNat = r.2.devices.length ∧
  t.ret = some (returnedOf r)

/-- A state tracks itself, no event having happened. -/
theorem State.tracks_self (s : State) (hr : s.run = .busy) (hcount : s.regCount.toNat ≤ 32) :
    Tracks s ⟨0, [], s.entries⟩ s :=
  ⟨hr, rfl, rfl, (List.append_nil _).symm, rfl, by simpa [State.entries] using hcount⟩

/-- A called procedure runs to its return, and does what it performs. -/
theorem Performs.returns {c : Int} {callee : Activation} {p : ScanProc} (hp : Performs 0 c (nextAction callee none) p)
    {s : State} (hr : s.run = .busy) (hc : s.cursor ≠ []) (hcount : s.regCount.toNat ≤ 32) :
    ∃ (t : State) (k : Nat) (answers : Nat → Word),
      Runs k (s.call callee) t ∧ s.ReturnsWith t (p answers ⟨0, [], s.entries⟩) := by
  obtain ⟨a, rest, hcursor⟩ := List.exists_cons_of_ne_nil hc
  obtain ⟨k, t, b, l, r, hrun, htcur, ⟨htracks, hends, -, -⟩, hanswers⟩ :=
    hp s (s.call callee) _ callee s.cursor ((s.tracks_self hr hcount).engine _ _) rfl rfl (Nat.zero_le _)
  obtain ⟨answers, hl⟩ : ∃ answers, Supplies answers 0 l := ⟨_, supplies_getD 0 l⟩
  obtain rfl := hanswers answers hl
  rw [hcursor] at htcur
  refine ⟨_, k + 1, answers, hrun.trans (.single (step_finish_caller htracks.run htcur hends)), ?_⟩
  exact ⟨htracks.run, hcursor.symm, htracks.commands, htracks.responses, htracks.trace, htracks.entries,
    htracks.count, rfl⟩

/-- Settles O44. -/
theorem scanbusRunsAsTheRecursion : Obligations.ScanbusRunsAsTheRecursion := by
  intro s bus hr hc hcount
  obtain ⟨t, k, answers, hrun, ht⟩ := (performs_bus Config.stackDepth (by decide) bus).returns hr hc hcount
  refine ⟨_, t, k, answers, (exec_scanbus bus s).trans (congrArg _ (s.internally_rule _ hc)), hrun, ?_⟩
  rw [ScanProc.recBus_eq]
  exact ht

/-- Settles O45. -/
theorem scandevRunsAsTheRecursion : Obligations.ScandevRunsAsTheRecursion := by
  intro s bus dev hr hc hcount
  obtain ⟨t, k, answers, hrun, ht⟩ := (performs_dev (ScanProc.isScan_bus Config.stackDepth)
    (performs_bus Config.stackDepth (by decide)) bus dev 1).returns hr hc hcount
  refine ⟨_, t, k, answers, (exec_scandev bus dev s).trans (congrArg _ (s.internally_rule _ hc)), hrun, ?_⟩
  rw [ScanProc.recBus_eq, ScanProc.recDev_eq]
  exact ht

/-- Settles O46. -/
theorem scanfnRunsAsTheRecursion : Obligations.ScanfnRunsAsTheRecursion := by
  intro s bus dev fn hr hc hcount
  obtain ⟨t, k, answers, hrun, ht⟩ := (performs_fn (ScanProc.isScan_bus Config.stackDepth)
    (performs_bus Config.stackDepth (by decide)) bus dev fn 0 .zero).returns hr hc hcount
  refine ⟨_, t, k, answers, (exec_scanfn bus dev fn s).trans (congrArg _ (s.internally_rule _ hc)), hrun, ?_⟩
  rw [ScanProc.recBus_eq, ScanProc.recFn_eq]
  exact ht

/-! ### A SCANALL command, from its word to its response (R160) -/

/-- SCANALL's state after its first two steps: accepted, and its registry emptied. -/
def State.afterRegreset (s : State) (rest : List Word64) : State :=
  { s with run := .busy, cursor := [.scanAll .reset 1], ret := some (.value 0), commands := rest, regCount := 0 }

theorem runs_afterRegreset {s : State} {w : Word64} {rest : List Word64} (hr : s.run = .idle)
    (hc : s.commands = w :: rest) (hop : opField w = 0x0D) : Runs 2 s (s.afterRegreset rest) := by
  refine .cons (step_of_scanall hr hc hop) (.single ?_)
  rw [step_issue _ (.scanAll .start 1) (.scanAll .reset 1) [] .regreset rfl rfl rfl,
    exec_regreset_of_ne_nil (List.cons_ne_nil _ _)]
  rfl

theorem State.tracks_afterRegreset (s : State) (rest : List Word64) :
    Tracks (s.afterRegreset rest) ⟨0, [], []⟩ (s.afterRegreset rest) :=
  ⟨rfl, rfl, rfl, (List.append_nil _).symm, rfl, rfl⟩

/-- The response to a scan. -/
theorem response_returnedOf (r : ScanResult) (n : Nat) :
    (returnedOf r).response n = match r.1 with
      | none => ⟨.success, 0⟩
      | some f => ⟨f.kind, Config.failPayload n⟩ := by
  rcases r with ⟨_ | f, g⟩ <;> rfl

/-- Settles O47: the steps are one for each read, which is two events, at most 9 for each entry and 9 for a failure,
with 18 of SCANALL's own. -/
theorem scanallRunsAsTheRecursion : Obligations.ScanallRunsAsTheRecursion := by
  intro s w rest hr hc hop
  obtain ⟨k, t, b, l, r, hrun, htcur, ⟨htracks, hends, -, hsteps⟩, hanswers⟩ :=
    performs_all _ _ _ _ [] (s.tracks_afterRegreset rest) rfl rfl (Nat.zero_le _)
  obtain ⟨answers, hl⟩ : ∃ answers, Supplies answers 0 l := ⟨_, supplies_getD 0 l⟩
  obtain rfl := hanswers answers hl
  rw [← ScanProc.recAll_eq] at htracks hends hsteps
  refine ⟨2 + k + 1, _, answers, Config.failPayload t.draws, ?_,
    ((runs_afterRegreset hr hc hop).trans hrun).trans (.single (step_finish_last htracks.run htcur hends)),
    rfl, rfl, htracks.commands, htracks.trace, htracks.entries, htracks.count, ?_⟩
  · have hdevices := htracks.length_le
    have hevents := recAll_events_length answers
    simp only [List.length_nil] at hsteps
    split at hsteps <;> omega
  · rw [State.respond_responses, response_returnedOf]
    exact congrArg (· ++ _) htracks.responses

/-- Settles O48. -/
theorem everyScanEndsWithinItsBound : Obligations.EveryScanEndsWithinItsBound := by
  intro s w rest hr hc hop
  obtain ⟨k, t, answers, v, -, hrun, hidle, -, hcommands, htrace, -⟩ := scanallRunsAsTheRecursion s w rest hr hc hop
  refine ⟨k, t, hrun, hidle, hcommands, ?_⟩
  rw [htrace, List.length_append]
  exact Nat.add_le_add_left (recAll_events_length answers) _

/-! ### Where a command has ended is one state -/

/-- An Idle engine's step takes the next word (R32). -/
theorem commands_of_idle_step {s t : State} {w : Word64} {rest : List Word64} (hr : s.run = .idle)
    (hc : s.commands = w :: rest) (h : step s = .next t) : t.commands = rest := by
  by_cases hop : opField w = 0x0D
  · rw [step_of_scanall hr hc hop] at h
    rw [← Host.Outcome.next.inj h]
  · exact (oneResponsePerCommand s t w rest hr hc hop h).2.1

/-- No step puts a command on the host's list. -/
theorem commands_length_le_of_step {s t : State} (h : step s = .next t) : t.commands.length ≤ s.commands.length := by
  cases hr : s.run with
  | busy => rw [busyEngineAcceptsNoCommand s t hr h]
  | idle =>
    cases hc : s.commands with
    | nil =>
      obtain rfl := Host.Outcome.next.inj ((step_wait s hr hc).symm.trans h)
      rw [hc]
    | cons w rest =>
      rw [commands_of_idle_step hr hc h]
      exact Nat.le_succ _

theorem Runs.commands_length_le {k : Nat} {s t : State} (h : Runs k s t) :
    t.commands.length ≤ s.commands.length := by
  induction k generalizing s with
  | zero =>
    obtain rfl := Host.Outcome.next.inj h
    exact Nat.le_refl _
  | succ k ih =>
    obtain ⟨u, hstep, hrest⟩ := h.uncons
    exact (ih hrest).trans (commands_length_le_of_step hstep)

/-- An Idle engine that takes no command stays as it is. -/
theorem Runs.eq_of_idle {k : Nat} {s t : State} (h : Runs k s t) (hr : s.run = .idle)
    (hc : t.commands = s.commands) : t = s := by
  induction k with
  | zero => exact (Host.Outcome.next.inj h).symm
  | succ k ih =>
    obtain ⟨u, hstep, hrest⟩ := h.uncons
    cases hcs : s.commands with
    | nil =>
      obtain rfl := Host.Outcome.next.inj ((step_wait s hr hcs).symm.trans hstep)
      exact ih hrest
    | cons w rest =>
      have hlen := hrest.commands_length_le
      rw [commands_of_idle_step hr hcs hstep, hc, hcs, List.length_cons] at hlen
      exact absurd hlen (Nat.not_succ_le_self _)

/-- Two runs to Idle engines with the same commands to come end alike. -/
theorem Runs.idle_unique {k k' : Nat} {s t t' : State} (h : Runs k s t) (h' : Runs k' s t') (hr : t.run = .idle)
    (hr' : t'.run = .idle) (hc : t.commands = t'.commands) : t = t' := by
  induction k generalizing s k' with
  | zero =>
    obtain rfl := Host.Outcome.next.inj h
    exact (h'.eq_of_idle hr hc.symm).symm
  | succ k ih =>
    cases k' with
    | zero =>
      obtain rfl := Host.Outcome.next.inj h'
      exact h.eq_of_idle hr' hc
    | succ k' =>
      obtain ⟨u, hstep, hrest⟩ := h.uncons
      obtain ⟨u', hstep', hrest'⟩ := h'.uncons
      obtain rfl := Host.Outcome.next.inj (hstep.symm.trans hstep')
      exact ih hrest hrest'

/-- The kind of a scan's response. -/
def kindOf (r : ScanResult) : Kind :=
  match r.1 with
  | none => .success
  | some f => f.kind

/-- A completed scan is the recursion on some answers. -/
theorem completed_scan {s t : State} {w : Word64} {rest : List Word64} {k : Nat} {e : List Event} {r : Response}
    (hr : s.run = .idle) (hc : s.commands = w :: rest) (hop : opField w = 0x0D) (hrun : Runs k s t)
    (hidle : t.run = .idle) (hcommands : t.commands = rest) (htrace : t.trace = s.trace ++ e)
    (hresponse : t.responses = s.responses ++ [r]) :
    ∃ answers, e = (recAll answers).2.events ∧ t.entries = (recAll answers).2.devices ∧
      r.kind = kindOf (recAll answers) := by
  obtain ⟨k', t', answers, v, -, hrun', hidle', -, hcommands', htrace', hentries, -, hresponse'⟩ :=
    scanallRunsAsTheRecursion s w rest hr hc hop
  obtain rfl := hrun.idle_unique hrun' hidle hidle' (hcommands.trans hcommands'.symm)
  refine ⟨answers, List.append_cancel_left (htrace.symm.trans htrace'), hentries, ?_⟩
  rw [List.singleton_inj.mp (List.append_cancel_left (hresponse.symm.trans hresponse')), kindOf]
  cases (recAll answers).1 <;> rfl

/-- Settles O49: each scan is the recursion on its answers, and these are the same. -/
theorem scansOfAnUnchangedModelAgree : Obligations.ScansOfAnUnchangedModelAgree := by
  intro read s₁ s₂ t₁ t₂ w₁ w₂ rest₁ rest₂ k₁ k₂ e₁ e₂ r₁ r₂ hr₁ hc₁ hop₁ hrun₁ hidle₁ hcommands₁ htrace₁ hresp₁
    hread₁ hr₂ hc₂ hop₂ hrun₂ hidle₂ hcommands₂ htrace₂ hresp₂ hread₂
  obtain ⟨answers₁, rfl, hentries₁, hkind₁⟩ :=
    completed_scan hr₁ hc₁ hop₁ hrun₁ hidle₁ hcommands₁ htrace₁ hresp₁
  obtain ⟨answers₂, rfl, hentries₂, hkind₂⟩ :=
    completed_scan hr₂ hc₂ hop₂ hrun₂ hidle₂ hcommands₂ htrace₂ hresp₂
  have same : recAll answers₁ = recAll answers₂ := by
    rw [ScanProc.recAll_eq] at hread₁ hread₂ ⊢
    rw [ScanProc.recAll_eq]
    exact ScanProc.eq_of_consistent ScanProc.isScan_all read _ _ _ hread₁ hread₂
  rw [hentries₁, hentries₂, hkind₁, hkind₂, same]
  exact ⟨rfl, rfl, rfl⟩

end Sys2Proof.Machine
end
